-- ==== Sys2Proof/Word.lean ====
section
/-! DEFINITION. The byte, the one word of the block (00_scope.md R5, R12: every value is an unsigned
integer of a stated width; bit 0 is the least significant bit, R10). The bit-field helpers are in
Machine/Bits.lean. -/

namespace Sys2Proof

/-- One byte of a frame, or one body field held in a byte (00_scope.md R5, R12). -/
abbrev Byte := BitVec 8

end Sys2Proof
end

