-- ==== Sys2Proof/Config.lean ====
section
/-! DEFINITION. The parameter instance of the block (00_scope.md R5 to R9) and the free value.
The spec leaves the instance OPEN (D3) and asks a model to take it as configuration: it is plain data,
carried by the machine in `State.params`, so that every statement ranges over every instance.
`Config.p0` and `Config.p1` are the two named instances; well-formedness is `Params.wf` in
Machine/Bits.lean. -/

namespace Sys2Proof

/-- The place `(idx_f, mask_f, off_f)` of one body field (00_scope.md R8). -/
structure Place where
  idx  : Fin 8
  mask : Byte
  off  : Nat
  deriving DecidableEq, Repr

/-- `LAYOUT`: the places of the eleven body fields (00_scope.md R8, 30_encoding.md R72). -/
structure Layout where
  acError           : Place
  temperature       : Place
  acMode            : Place
  fanMode           : Place
  economyMode       : Place
  swingMode         : Place
  swingStep         : Place
  controllerPresent : Place
  updateMagic       : Place
  onOff             : Place
  controllerTemp    : Place
  deriving DecidableEq, Repr

/-- A parameter instance: the addresses (R6), the message-type codes (R7), the body layout (R8) and the
intervals in milliseconds (R9) of 00_scope.md. -/
structure Params where
  addrUnit      : BitVec 7
  addrPrimary   : BitVec 7
  addrSecondary : BitVec 7
  mtStatus      : BitVec 2
  mtLogin       : BitVec 2
  mtError       : BitVec 2
  mtReserved    : BitVec 2
  layout        : Layout
  guardMs       : Nat
  boundMs       : Nat
  /-- `TIMEOUT_MS`: the threshold a host passes when it has no other (R37); no operation reads it. -/
  timeoutMs     : Nat
  deriving DecidableEq, Repr

/-- `LAYOUT` of the instance P0 (30_encoding.md R73, marked general knowledge there).
PRESUMED (unsafe for a claim about a chip that fixes P0): assumption 2. -/
def Config.layoutP0 : Layout where
  onOff             := ⟨3, 0x01, 0⟩
  acMode            := ⟨3, 0x0E, 1⟩
  fanMode           := ⟨3, 0x70, 4⟩
  acError           := ⟨3, 0x80, 7⟩
  temperature       := ⟨4, 0x7F, 0⟩
  economyMode       := ⟨4, 0x80, 7⟩
  swingStep         := ⟨5, 0x02, 1⟩
  swingMode         := ⟨5, 0x04, 2⟩
  updateMagic       := ⟨5, 0xF0, 4⟩
  controllerPresent := ⟨6, 0x01, 0⟩
  controllerTemp    := ⟨6, 0x7E, 1⟩

/-- The default instance P0 (00_scope.md R6, R7, R9; 30_encoding.md R73).
PRESUMED (unsafe for a claim about a chip that fixes P0): assumption 2. -/
def Config.p0 : Params where
  addrUnit      := 1
  addrPrimary   := 32
  addrSecondary := 33
  mtStatus      := 0
  mtLogin       := 2
  mtError       := 1
  mtReserved    := 3
  layout        := Config.layoutP0
  guardMs       := 50
  boundMs       := 1000
  timeoutMs     := 2000

/-- The alternative instance P1: the message types in the order AC lists them (00_scope.md R7). -/
def Config.p1 : Params := { Config.p0 with mtLogin := 1, mtError := 2 }

/-- The bit `IS_BOUND` answers in its unspecified corner (42_transport_timer.md R142, "return any value"),
as an uninterpreted function of the number of bits drawn before: no proof can see its value (safe).
Assumption 10. -/
opaque Config.freeBit : Nat → Bool

/-- What of the machine the reading of an event depends on: the instance, and the state bits that select the
row of the frame map (30_encoding.md R86, column "condition"; the own address is the register of R33). -/
structure Mode where
  params    : Params
  connected : Bool
  isPrimary : Bool
  own       : BitVec 7
  deriving DecidableEq, Repr

end Sys2Proof
end

