-- ==== Sys2Proof/Syntax.lean ====
section
/-! DEFINITION. Frames, the `ControlFrame` record, the events presented to the block, and `Instr`: one
constructor per row of spec/opcode_table.json. What takes the place of an instruction is an *operation*: a
codec function, a host command, or the reaction to one class of inbound frame (00_scope.md, glossary). -/

namespace Sys2Proof

/-- A frame of 8 bytes, `b0` first on the bus (00_scope.md R5, R11; 20_memory.md R54). -/
structure Frame where
  b0 : Byte
  b1 : Byte
  b2 : Byte
  b3 : Byte
  b4 : Byte
  b5 : Byte
  b6 : Byte
  b7 : Byte
  deriving DecidableEq, Repr

/-- The record of 17 unsigned fields (10_state.md R21), in the order of its table. The header fields have the
widths the source fixes; a body field is held in a byte, and fits the width of its mask by `ControlFrame.fits`. -/
structure ControlFrame where
  messageSource     : BitVec 8
  messageDest       : BitVec 7
  messageType       : BitVec 2
  writeBit          : BitVec 1
  loginBit          : BitVec 1
  unknownBit        : BitVec 1
  acError           : Byte
  temperature       : Byte
  acMode            : Byte
  fanMode           : Byte
  economyMode       : Byte
  swingMode         : Byte
  swingStep         : Byte
  controllerPresent : Byte
  updateMagic       : Byte
  onOff             : Byte
  controllerTemp    : Byte
  deriving DecidableEq, Repr

/-- The eleven body fields, in the order of 00_scope.md R8. -/
inductive BodyField
  | acError | temperature | acMode | fanMode | economyMode | swingMode | swingStep
  | controllerPresent | updateMagic | onOff | controllerTemp
  deriving DecidableEq, Repr

/-- The seven stageable fields, in the order of 41_pending_update.md R120 and 10_state.md R29. -/
inductive StageField
  | onOff | temperature | acMode | fanMode | swingMode | swingStep | economyMode
  deriving DecidableEq, Repr

/-- The ten classes of an inbound group (30_encoding.md R86). -/
inductive FrameClass
  | unconnected | short | statusCp1 | statusCp0Pri | statusCp0Sec | login | error | reserved
  | observe | other
  deriving DecidableEq, Repr

/-- The operations of the block: one constructor per row of spec/opcode_table.json. In the receive classes `b` is
the LOGICAL frame (`INV` of the received bytes), `raw` the received WIRE bytes, and `now` the time of the event in
milliseconds. In the reply shapes `b` is the logical frame whose decoded record is the base of the reply
(43_session_fsm.md R167). -/
inductive Instr
  -- codec format rows
  | frameDecode (b : Frame)
  | frameEncode (F : ControlFrame)
  -- receive classes (30_encoding.md R86, R87)
  | rxStatusCp1Primary (b : Frame) (now : Nat)
  | rxStatusCp1Secondary (b : Frame) (now : Nat)
  | rxStatusCp0Pri (b : Frame) (now : Nat)
  | rxStatusCp0Sec (b : Frame) (now : Nat)
  | rxErrorPrimary (b : Frame) (now : Nat)
  | rxErrorSecondary (b : Frame) (now : Nat)
  | rxLoginPrimary (b : Frame) (now : Nat)
  | rxLoginSecondary (b : Frame) (now : Nat)
  | rxReservedPrimary (b : Frame) (now : Nat)
  | rxReservedSecondary (b : Frame) (now : Nat)
  | rxObserve (b : Frame) (now : Nat)
  | rxOther (b : Frame) (now : Nat)
  | rxShort (raw : List Byte) (now : Nat)
  | rxUnconnected (raw : List Byte) (now : Nat)
  -- reply shapes (43_session_fsm.md R177)
  | txStatusToUnitPrimary (b : Frame)
  | txStatusToUnitSecondary (b : Frame)
  | txStatusToSecondaryPrimary (b : Frame)
  | txLoginToUnitPrimary (b : Frame)
  | txStatusMagic2ToUnitSecondary (b : Frame)
  | txLoginEchoToSecondaryPrimary (b : Frame)
  | txLoginEchoToSecondarySecondary (b : Frame)
  -- host commands (30_encoding.md R90)
  | connect (isSecondary : Bool)
  | reset
  | rxFrame (raw : List Byte) (now : Nat)
  | txPoll (now : Nat)
  | timeoutPoll (now : Nat) (thresholdMs : Nat)
  | tick (now : Nat) (thresholdMs : Nat)
  | setOnOff (v : Bool)
  | setTemp (v : Byte)
  | setMode (v : Byte)
  | setFanMode (v : Byte)
  | setSwingMode (v : Byte)
  | setSwingStep (v : Byte)
  | setEconomyMode (v : Byte)
  | getOnOff
  | getTemp
  | getMode
  | getFanMode
  | getEconomyMode
  | getSwingMode
  | getSwingStep
  | getControllerTemp
  | isBound (now : Nat)
  | updatePending
  | isTimedOut (now : Nat) (thresholdMs : Nat)
  | readyToTransmit (now : Nat)
  | phase
  | cmdDecode (b : Frame)
  | cmdEncode (F : ControlFrame)
  | cmdInv (b : Frame)
  | unassigned00
  | unassigned07
  | unassigned0F
  -- internal operations (30_encoding.md R91)
  | onFrameReceived (now : Nat)
  | applyAndClear (R : ControlFrame)
  | stage (f : StageField) (v : Byte)
  | wireDecode (w : Frame)
  | wireEncode (F : ControlFrame)
  deriving DecidableEq, Repr

/-- One event as it is presented to the block. The spec gives the 5-bit command codes (30_encoding.md R90) and no
layout of operands on a port: an event carries its byte operands and its times as lists, in the order of R90's
table. DESIGN CHOICE (safe): assumption 3. -/
inductive Packet
  /-- A command of R90: code, byte operands, times in milliseconds (`now`, then `thresholdMs`). -/
  | command (cmd : BitVec 5) (bytes : List Byte) (times : List Nat)
  /-- A group of received wire bytes read through the frame map of R86, with its `now`. -/
  | group (raw : List Byte) (now : Nat)
  /-- Eight logical bytes given to the codec alone (opcode table row FRAME.decode). -/
  | codecBytes (b : Frame)
  /-- A record given to the codec alone (opcode table row FRAME.encode). -/
  | codecRecord (F : ControlFrame)
  deriving DecidableEq, Repr

/-- Why a packet is no event of the spec (raised by the decoder only; safe: the machine stops). -/
inductive DecodeError
  /-- The number of byte operands is not the one R90 gives the command. -/
  | byteOperands
  /-- The number of time operands is not the one R90 gives the command. -/
  | timeOperands
  /-- A 1-bit operand (R81) is neither 0 nor 1. -/
  | bitOperand
  /-- `n` of `RX_FRAME` is not the number of bytes given. -/
  | groupCount
  /-- A group of more than 8 bytes (20_memory.md R56, 70_reset_and_hazards.md R228 O3). -/
  | groupTooLong
  deriving DecidableEq, Repr

/-- The answer of the decoder: an operation, or the reason why there is none. -/
inductive Decoded
  | ok (i : Instr)
  | rejected (e : DecodeError)
  deriving DecidableEq, Repr

end Sys2Proof
end

