-- ==== Sys2Proof/Machine/Bits.lean ====
section
/-! DEFINITION. Bit-field helpers, the bytes of a frame and the fields of a record by name, and the
well-formedness of an instance (00_scope.md R6 to R8, R12, R13). -/

namespace Sys2Proof

/-- `extract(byte, mask, off) = (byte & mask) >> off` (00_scope.md R13). -/
def extract (byte mask : Byte) (off : Nat) : Byte := (byte &&& mask) >>> off

/-- `merge(byte, mask, off, v) = (byte & ~mask) | ((v << off) & mask)` (00_scope.md R13). -/
def merge (byte mask : Byte) (off : Nat) (v : Byte) : Byte :=
  (byte &&& ~~~mask) ||| ((v <<< off) &&& mask)

/-- `inv8(byte) = byte ^ 0xFF` (00_scope.md R13). -/
def inv8 (byte : Byte) : Byte := byte ^^^ 0xFF

/-- The number of one bits of a mask (00_scope.md R8). -/
def popcount (mask : Byte) : Nat := (List.range 8).countP fun k => mask.getLsbD k

/-- `trunc_w(v)`, widened again to a byte (00_scope.md R12). -/
def truncTo (w : Nat) (v : Byte) : Byte := BitVec.ofNat 8 (v.toNat % 2 ^ w)

/-! ### Frames -/

/-- The frame of eight zero bytes. -/
def Frame.zero : Frame := ⟨0, 0, 0, 0, 0, 0, 0, 0⟩

/-- `b[i]` (00_scope.md R11, R15). -/
def Frame.get (b : Frame) (i : Fin 8) : Byte :=
  match i with
  | 0 => b.b0
  | 1 => b.b1
  | 2 => b.b2
  | 3 => b.b3
  | 4 => b.b4
  | 5 => b.b5
  | 6 => b.b6
  | 7 => b.b7

/-- `b[i] <- v` (00_scope.md R15). -/
def Frame.set (b : Frame) (i : Fin 8) (v : Byte) : Frame :=
  match i with
  | 0 => { b with b0 := v }
  | 1 => { b with b1 := v }
  | 2 => { b with b2 := v }
  | 3 => { b with b3 := v }
  | 4 => { b with b4 := v }
  | 5 => { b with b5 := v }
  | 6 => { b with b6 := v }
  | 7 => { b with b7 := v }

/-- The eight bytes in order, `b[0]` first. -/
def Frame.toList (b : Frame) : List Byte := [b.b0, b.b1, b.b2, b.b3, b.b4, b.b5, b.b6, b.b7]

/-- The frame of a list of bytes. It is used on exactly eight of them; a missing byte reads 0 and a further one
is left out. -/
def Frame.ofList (l : List Byte) : Frame :=
  ⟨l.getD 0 0, l.getD 1 0, l.getD 2 0, l.getD 3 0, l.getD 4 0, l.getD 5 0, l.getD 6 0, l.getD 7 0⟩

/-- The frame of its 64-bit number form, byte 0 most significant (30_encoding.md R75). -/
def Frame.ofNat64 (w : Nat) : Frame :=
  ⟨BitVec.ofNat 8 (w / 2 ^ 56), BitVec.ofNat 8 (w / 2 ^ 48), BitVec.ofNat 8 (w / 2 ^ 40),
   BitVec.ofNat 8 (w / 2 ^ 32), BitVec.ofNat 8 (w / 2 ^ 24), BitVec.ofNat 8 (w / 2 ^ 16),
   BitVec.ofNat 8 (w / 2 ^ 8), BitVec.ofNat 8 w⟩

/-- `b[idx] <- merge(b[idx], mask, off, v)` (30_encoding.md R80). -/
def Frame.mergeAt (b : Frame) (p : Place) (v : Byte) : Frame :=
  b.set p.idx (merge (b.get p.idx) p.mask p.off v)

/-- `extract(b[idx], mask, off)` (30_encoding.md R79). -/
def Frame.extractAt (b : Frame) (p : Place) : Byte := extract (b.get p.idx) p.mask p.off

/-! ### Records -/

/-- The record of 17 zero fields (10_state.md R38). -/
def ControlFrame.zero : ControlFrame := ⟨0, 0, 0, 0, 0, 0, 0, 0, 0, 0, 0, 0, 0, 0, 0, 0, 0⟩

/-- A body field of a record, by name. -/
def ControlFrame.body (F : ControlFrame) (f : BodyField) : Byte :=
  match f with
  | .acError => F.acError
  | .temperature => F.temperature
  | .acMode => F.acMode
  | .fanMode => F.fanMode
  | .economyMode => F.economyMode
  | .swingMode => F.swingMode
  | .swingStep => F.swingStep
  | .controllerPresent => F.controllerPresent
  | .updateMagic => F.updateMagic
  | .onOff => F.onOff
  | .controllerTemp => F.controllerTemp

/-- `F with {f := v}` for a body field `f` (00_scope.md R15). -/
def ControlFrame.setBody (F : ControlFrame) (f : BodyField) (v : Byte) : ControlFrame :=
  match f with
  | .acError => { F with acError := v }
  | .temperature => { F with temperature := v }
  | .acMode => { F with acMode := v }
  | .fanMode => { F with fanMode := v }
  | .economyMode => { F with economyMode := v }
  | .swingMode => { F with swingMode := v }
  | .swingStep => { F with swingStep := v }
  | .controllerPresent => { F with controllerPresent := v }
  | .updateMagic => { F with updateMagic := v }
  | .onOff => { F with onOff := v }
  | .controllerTemp => { F with controllerTemp := v }

/-- The eleven body fields in the order of the codec's loops (40_codec.md R102, R103). -/
def BodyField.all : List BodyField :=
  [.acError, .temperature, .acMode, .fanMode, .economyMode, .swingMode, .swingStep,
   .controllerPresent, .updateMagic, .onOff, .controllerTemp]

/-- The seven stageable fields in the order of 41_pending_update.md R124. -/
def StageField.all : List StageField :=
  [.onOff, .temperature, .acMode, .fanMode, .swingMode, .swingStep, .economyMode]

/-- The field of the record a stageable field names (41_pending_update.md R120). -/
def StageField.toBody (f : StageField) : BodyField :=
  match f with
  | .onOff => .onOff
  | .temperature => .temperature
  | .acMode => .acMode
  | .fanMode => .fanMode
  | .swingMode => .swingMode
  | .swingStep => .swingStep
  | .economyMode => .economyMode

/-- The place of a body field in a layout (00_scope.md R8). -/
def Layout.place (L : Layout) (f : BodyField) : Place :=
  match f with
  | .acError => L.acError
  | .temperature => L.temperature
  | .acMode => L.acMode
  | .fanMode => L.fanMode
  | .economyMode => L.economyMode
  | .swingMode => L.swingMode
  | .swingStep => L.swingStep
  | .controllerPresent => L.controllerPresent
  | .updateMagic => L.updateMagic
  | .onOff => L.onOff
  | .controllerTemp => L.controllerTemp

/-- `W_f = popcount(mask_f)` (00_scope.md R8, 10_state.md R21). -/
def Layout.width (L : Layout) (f : BodyField) : Nat := popcount (L.place f).mask

/-- Canonical: `loginBit = messageDest[5]` (30_encoding.md R76 (b)). -/
def ControlFrame.canonical (F : ControlFrame) : Bool := F.loginBit == F.messageDest.extractLsb' 5 1

/-- Every body field fits its width (10_state.md R21, R43 (e)); the header fields do by their types. -/
def ControlFrame.fits (L : Layout) (F : ControlFrame) : Bool :=
  BodyField.all.all fun f => decide ((F.body f).toNat < 2 ^ L.width f)

/-! ### Well-formed instances -/

/-- One place (00_scope.md R8): index 3 to 7, a non-empty run of one bits, the shift at its lowest one bit. -/
def Place.wf (p : Place) : Bool :=
  decide (3 ≤ p.idx.val) && p.mask != 0
    && p.mask == (BitVec.ofNat 8 (2 ^ popcount p.mask - 1)) <<< p.off

/-- Two places share no bit (00_scope.md R8). -/
def Place.disjoint (p q : Place) : Bool := p.idx != q.idx || p.mask &&& q.mask == 0

/-- A legal `LAYOUT` (00_scope.md R8, D8): each place legal, no bit shared, and the widths the source constrains. -/
def Layout.wf (L : Layout) : Bool :=
  (BodyField.all.all fun f => (L.place f).wf)
    && (BodyField.all.all fun f => BodyField.all.all fun g =>
          f == g || (L.place f).disjoint (L.place g))
    && L.width .onOff == 1 && L.width .controllerPresent == 1
    && decide (2 ≤ L.width .updateMagic) && decide (3 ≤ L.width .acMode)
    && decide (3 ≤ L.width .fanMode)

/-- A well-formed instance: addresses pairwise distinct with the bit-5 condition (00_scope.md R6, D4), message types
distinct (R7), a legal layout (R8). -/
def Params.wf (P : Params) : Bool :=
  P.addrUnit != P.addrPrimary && P.addrUnit != P.addrSecondary && P.addrPrimary != P.addrSecondary
    && P.addrUnit.getLsbD 5 == false && P.addrSecondary.getLsbD 5 == true
    && P.mtStatus != P.mtLogin && P.mtStatus != P.mtError && P.mtStatus != P.mtReserved
    && P.mtLogin != P.mtError && P.mtLogin != P.mtReserved && P.mtError != P.mtReserved
    && P.layout.wf

end Sys2Proof
end

