-- ==== Sys2Proof/Machine/Operands.lean ====
section
/-! DEFINITION. Every operand form of the operations (30_encoding.md R90, R81): nothing, one bit, one byte, a group
of bytes with its count, eight bytes, a record, one or two times. Each form is read from an event's lists and, beside
it, written to them. The spec gives the operands and their widths, and no layout on a port: assumption 3. -/

namespace Sys2Proof

/-- A command without operands. -/
def readNone (i : Instr) (bytes : List Byte) (times : List Nat) : Decoded :=
  match bytes, times with
  | [], [] => .ok i
  | [], _ :: _ => .rejected .timeOperands
  | _ :: _, _ => .rejected .byteOperands

/-- One 1-bit operand: 1 for true and 0 for false (30_encoding.md R81). -/
def readBit (k : Bool → Instr) (bytes : List Byte) (times : List Nat) : Decoded :=
  match bytes, times with
  | [v], [] => if v = 1 then .ok (k true) else if v = 0 then .ok (k false) else .rejected .bitOperand
  | [_], _ :: _ => .rejected .timeOperands
  | _, _ => .rejected .byteOperands

/-- One byte operand. -/
def readByte (k : Byte → Instr) (bytes : List Byte) (times : List Nat) : Decoded :=
  match bytes, times with
  | [v], [] => .ok (k v)
  | [_], _ :: _ => .rejected .timeOperands
  | _, _ => .rejected .byteOperands

/-- One time operand, `now`. -/
def readTime (k : Nat → Instr) (bytes : List Byte) (times : List Nat) : Decoded :=
  match bytes, times with
  | [], [now] => .ok (k now)
  | [], _ => .rejected .timeOperands
  | _ :: _, _ => .rejected .byteOperands

/-- Two time operands, `now` and `thresholdMs`. -/
def readTwoTimes (k : Nat → Nat → Instr) (bytes : List Byte) (times : List Nat) : Decoded :=
  match bytes, times with
  | [], [now, thresholdMs] => .ok (k now thresholdMs)
  | [], _ => .rejected .timeOperands
  | _ :: _, _ => .rejected .byteOperands

/-- `n`, `raw[0..n-1]` and `now` (43_session_fsm.md R160): the count, then as many bytes, at most 8 of them
(20_memory.md R56, 70_reset_and_hazards.md R228 O3). -/
def readGroup (k : List Byte → Nat → Instr) (bytes : List Byte) (times : List Nat) : Decoded :=
  match bytes, times with
  | n :: raw, [now] =>
    if n.toNat ≠ raw.length then .rejected .groupCount
    else if 8 < raw.length then .rejected .groupTooLong
    else .ok (k raw now)
  | _ :: _, _ => .rejected .timeOperands
  | [], _ => .rejected .byteOperands

/-- Eight bytes `b[0..7]`. -/
def readFrame (k : Frame → Instr) (bytes : List Byte) (times : List Nat) : Decoded :=
  match times with
  | [] => if bytes.length = 8 then .ok (k (Frame.ofList bytes)) else .rejected .byteOperands
  | _ :: _ => .rejected .timeOperands

/-- A record as 17 bytes, one field each, in the order of 10_state.md R21. -/
def ControlFrame.toBytes (F : ControlFrame) : List Byte :=
  [F.messageSource, F.messageDest.setWidth 8, F.messageType.setWidth 8, F.writeBit.setWidth 8,
   F.loginBit.setWidth 8, F.unknownBit.setWidth 8, F.acError, F.temperature, F.acMode, F.fanMode,
   F.economyMode, F.swingMode, F.swingStep, F.controllerPresent, F.updateMagic, F.onOff,
   F.controllerTemp]

/-- The record of 17 bytes. Bits of a header operand above its field are dropped, as `ENCODE` drops them
(40_codec.md R103 corner (d)); a body operand is kept whole, and `ENCODE` drops its excess bits. -/
def ControlFrame.ofBytes (l : List Byte) : ControlFrame where
  messageSource     := l.getD 0 0
  messageDest       := (l.getD 1 0).setWidth 7
  messageType       := (l.getD 2 0).setWidth 2
  writeBit          := (l.getD 3 0).setWidth 1
  loginBit          := (l.getD 4 0).setWidth 1
  unknownBit        := (l.getD 5 0).setWidth 1
  acError           := l.getD 6 0
  temperature       := l.getD 7 0
  acMode            := l.getD 8 0
  fanMode           := l.getD 9 0
  economyMode       := l.getD 10 0
  swingMode         := l.getD 11 0
  swingStep         := l.getD 12 0
  controllerPresent := l.getD 13 0
  updateMagic       := l.getD 14 0
  onOff             := l.getD 15 0
  controllerTemp    := l.getD 16 0

/-- A record operand. -/
def readRecord (k : ControlFrame → Instr) (bytes : List Byte) (times : List Nat) : Decoded :=
  match times with
  | [] => if bytes.length = 17 then .ok (k (ControlFrame.ofBytes bytes)) else .rejected .byteOperands
  | _ :: _ => .rejected .timeOperands

/-- The byte of a 1-bit operand (30_encoding.md R81). -/
def bitByte (v : Bool) : Byte := if v then 1 else 0

/-- The count and the bytes of a group operand. -/
def groupBytes (raw : List Byte) : List Byte := BitVec.ofNat 8 raw.length :: raw

end Sys2Proof
end

