-- ==== Sys2Proof/Machine/Codec.lean ====
section
/-! DEFINITION. The BitfieldCodec (40_codec.md): `INV`, `DECODE`, `ENCODE` and their compositions on the wire, as
pure functions of the layout. The line inversion is applied exactly once in each direction (90_conflicts.md C7). -/

namespace Sys2Proof

/-- `INV` (40_codec.md R100): every byte exclusive-or 0xFF. -/
def invFrame (b : Frame) : Frame :=
  ⟨inv8 b.b0, inv8 b.b1, inv8 b.b2, inv8 b.b3, inv8 b.b4, inv8 b.b5, inv8 b.b6, inv8 b.b7⟩

/-- `DECODE` of a LOGICAL frame (40_codec.md R102; places of 30_encoding.md R71, R72). Total: every frame decodes
(30_encoding.md R85). -/
def decodeFrame (L : Layout) (b : Frame) : ControlFrame where
  messageSource     := b.b0
  messageDest       := (extract b.b1 0x7F 0).setWidth 7
  loginBit          := (extract b.b1 0x20 5).setWidth 1
  unknownBit        := (extract b.b1 0x80 7).setWidth 1
  messageType       := (extract b.b2 0x30 4).setWidth 2
  writeBit          := (extract b.b2 0x08 3).setWidth 1
  acError           := b.extractAt L.acError
  temperature       := b.extractAt L.temperature
  acMode            := b.extractAt L.acMode
  fanMode           := b.extractAt L.fanMode
  economyMode       := b.extractAt L.economyMode
  swingMode         := b.extractAt L.swingMode
  swingStep         := b.extractAt L.swingStep
  controllerPresent := b.extractAt L.controllerPresent
  updateMagic       := b.extractAt L.updateMagic
  onOff             := b.extractAt L.onOff
  controllerTemp    := b.extractAt L.controllerTemp

/-- The six header fields merged into eight zero bytes, in the order of 30_encoding.md R80: `loginBit` after
`messageDest`, so it wins bit 5 of byte 1 (R76, D6; assumption 12). -/
def encodeHeader (F : ControlFrame) : Frame :=
  let b := Frame.zero
  let b := b.mergeAt ⟨0, 0xFF, 0⟩ F.messageSource
  let b := b.mergeAt ⟨1, 0x7F, 0⟩ (F.messageDest.setWidth 8)
  let b := b.mergeAt ⟨1, 0x20, 5⟩ (F.loginBit.setWidth 8)
  let b := b.mergeAt ⟨1, 0x80, 7⟩ (F.unknownBit.setWidth 8)
  let b := b.mergeAt ⟨2, 0x30, 4⟩ (F.messageType.setWidth 8)
  b.mergeAt ⟨2, 0x08, 3⟩ (F.writeBit.setWidth 8)

/-- `ENCODE` to a LOGICAL frame (40_codec.md R103): the header, then the eleven body fields. -/
def encodeFrame (L : Layout) (F : ControlFrame) : Frame :=
  BodyField.all.foldl (fun b f => b.mergeAt (L.place f) (F.body f)) (encodeHeader F)

/-- `WIRE_DECODE(w) = DECODE(INV(w))` (40_codec.md R104). -/
def wireDecodeFrame (L : Layout) (w : Frame) : ControlFrame := decodeFrame L (invFrame w)

/-- `WIRE_ENCODE(F) = INV(ENCODE(F))` (40_codec.md R105). -/
def wireEncodeFrame (L : Layout) (F : ControlFrame) : Frame := invFrame (encodeFrame L F)

/-- `FIELDMASK[i]`, the or of the masks of all fields in byte `i` (40_codec.md R107). -/
def fieldMask (L : Layout) (i : Fin 8) : Byte :=
  match i with
  | 0 => 0xFF
  | 1 => 0xFF
  | 2 => 0x38
  | i => BodyField.all.foldl (fun m f => if (L.place f).idx = i then m ||| (L.place f).mask else m) 0

end Sys2Proof
end

