-- ==== Sys2Proof/Machine/Classify.lean ====
section
/-! DEFINITION. The frame map: the class of an inbound group (30_encoding.md R86, 43_session_fsm.md R160, R161),
and the shapes of the replies by the fields that are fixed in them (43_session_fsm.md R177). -/

namespace Sys2Proof

/-- The class of a received group of wire bytes: the tests of 60_exceptions.md R209 in their order, the first that
applies deciding. -/
def classify (m : Mode) (raw : List Byte) : FrameClass :=
  if m.connected = false then .unconnected
  else if raw.length < 8 then .short
  else
    let F := wireDecodeFrame m.params.layout (Frame.ofList raw)
    if F.messageDest = m.own then
      if F.messageType = m.params.mtStatus then
        if F.controllerPresent = 1 then .statusCp1
        else if m.isPrimary then .statusCp0Pri
        else .statusCp0Sec
      else if F.messageType = m.params.mtLogin then .login
      else if F.messageType = m.params.mtError then .error
      else .reserved
    else if F.messageDest = m.params.addrSecondary then .observe
    else .other

/-- The logical frame `b`, received on the wire, is of class `c` in the mode. -/
def classHolds (m : Mode) (c : FrameClass) (b : Frame) : Bool := classify m (invFrame b).toList == c

/-- The frame is of class `c` and the role is the one the opcode table's row names. -/
def rowHolds (m : Mode) (c : FrameClass) (primary : Bool) (b : Frame) : Bool :=
  m.isPrimary == primary && classHolds m c b

/-- The fixed fields of a reply shape (43_session_fsm.md R177): source, destination, type, `loginBit`, `unknownBit`,
`controllerPresent`, `updateMagic`. -/
def hasShape (P : Params) (src dest : BitVec 7) (mt : BitVec 2) (login : BitVec 1) (cp magic : Byte)
    (b : Frame) : Bool :=
  let F := decodeFrame P.layout b
  F.messageSource == src.setWidth 8 && F.messageDest == dest && F.messageType == mt
    && F.loginBit == login && F.unknownBit == 1 && F.controllerPresent == cp && F.updateMagic == magic
    && encodeFrame P.layout F == b

/-- A frame of the shape, with `writeBit` 0: the reply to a LOGIN frame (43_session_fsm.md R173). -/
def hasShapeNoWrite (P : Params) (src dest : BitVec 7) (mt : BitVec 2) (login : BitVec 1)
    (cp magic : Byte) (b : Frame) : Bool :=
  hasShape P src dest mt login cp magic b && (decodeFrame P.layout b).writeBit == 0

/-- A frame of the shape, with `acError` 0: the login frame to the unit, the one shape whose `acError` is a constant
(43_session_fsm.md R169, R177); `acError` is not stageable (41_pending_update.md R120). -/
def hasShapeNoError (P : Params) (src dest : BitVec 7) (mt : BitVec 2) (login : BitVec 1)
    (cp magic : Byte) (b : Frame) : Bool :=
  hasShape P src dest mt login cp magic b && (decodeFrame P.layout b).acError == 0

end Sys2Proof
end

