-- ==== Sys2Proof/WellFormed.lean ====
section
/-! DEFINITION. Well-formed operations. A group has at most 8 bytes (20_memory.md R56, 70_reset_and_hazards.md R228
O3); a row of the frame map is well formed in a mode when the frame is of the row's class in that mode
(30_encoding.md R86, R87); a reply shape, when its frame has the row's fixed bits (43_session_fsm.md R177). Every other
operation takes every operand (setters: 41_pending_update.md R121; codec: 40_codec.md R108). -/

namespace Sys2Proof

/-- Well-formedness of an operation in a mode. -/
def Instr.wf (m : Mode) : Instr → Bool
  | .frameDecode _ => true
  | .frameEncode _ => true
  | .rxStatusCp1Primary b _ => rowHolds m .statusCp1 true b
  | .rxStatusCp1Secondary b _ => rowHolds m .statusCp1 false b
  | .rxStatusCp0Pri b _ => rowHolds m .statusCp0Pri true b
  | .rxStatusCp0Sec b _ => rowHolds m .statusCp0Sec false b
  | .rxErrorPrimary b _ => rowHolds m .error true b
  | .rxErrorSecondary b _ => rowHolds m .error false b
  | .rxLoginPrimary b _ => rowHolds m .login true b
  | .rxLoginSecondary b _ => rowHolds m .login false b
  | .rxReservedPrimary b _ => rowHolds m .reserved true b
  | .rxReservedSecondary b _ => rowHolds m .reserved false b
  | .rxObserve b _ => classHolds m .observe b
  | .rxOther b _ => classHolds m .other b
  | .rxShort raw _ => classify m raw == .short
  | .rxUnconnected raw _ => decide (raw.length ≤ 8) && classify m raw == .unconnected
  | .txStatusToUnitPrimary b =>
      hasShape m.params m.params.addrPrimary m.params.addrUnit m.params.mtStatus 0 1 0 b
  | .txStatusToUnitSecondary b =>
      hasShape m.params m.params.addrSecondary m.params.addrUnit m.params.mtStatus 0 1 0 b
  | .txStatusToSecondaryPrimary b =>
      hasShape m.params m.params.addrPrimary m.params.addrSecondary m.params.mtStatus 1 0 0 b
  | .txLoginToUnitPrimary b =>
      hasShapeNoError m.params m.params.addrPrimary m.params.addrUnit m.params.mtLogin 0 0 0 b
  | .txStatusMagic2ToUnitSecondary b =>
      hasShape m.params m.params.addrSecondary m.params.addrUnit m.params.mtStatus 0 1 2 b
  | .txLoginEchoToSecondaryPrimary b =>
      hasShapeNoWrite m.params m.params.addrPrimary m.params.addrSecondary m.params.mtLogin 1 1 0 b
  | .txLoginEchoToSecondarySecondary b =>
      hasShapeNoWrite m.params m.params.addrSecondary m.params.addrSecondary m.params.mtLogin 1 1 0 b
  | .connect _ => true
  | .reset => true
  | .rxFrame raw _ => decide (raw.length ≤ 8)
  | .txPoll _ => true
  | .timeoutPoll _ _ => true
  | .tick _ _ => true
  | .setOnOff _ => true
  | .setTemp _ => true
  | .setMode _ => true
  | .setFanMode _ => true
  | .setSwingMode _ => true
  | .setSwingStep _ => true
  | .setEconomyMode _ => true
  | .getOnOff => true
  | .getTemp => true
  | .getMode => true
  | .getFanMode => true
  | .getEconomyMode => true
  | .getSwingMode => true
  | .getSwingStep => true
  | .getControllerTemp => true
  | .isBound _ => true
  | .updatePending => true
  | .isTimedOut _ _ => true
  | .readyToTransmit _ => true
  | .phase => true
  | .cmdDecode _ => true
  | .cmdEncode _ => true
  | .cmdInv _ => true
  | .unassigned00 => true
  | .unassigned07 => true
  | .unassigned0F => true
  | .onFrameReceived _ => true
  | .applyAndClear _ => true
  | .stage _ _ => true
  | .wireDecode _ => true
  | .wireEncode _ => true

end Sys2Proof
end

