-- ==== Sys2Proof/Decode.lean ====
section
/-! DEFINITION. The decoder: from an event to an operation, total, rejecting by name; then the encoder, and the
readings of the opcode table's own words. A command is read by its 5-bit code (30_encoding.md R90), an inbound group
through the frame map (R86), whose rows depend on the mode. The reply shapes are read from the frame the block builds
(`decodeReply`); the internal operations are not reachable from any port (R91), so no event reads as one. -/

namespace Sys2Proof

/-- The operation of a command (30_encoding.md R90); codes 0x00, 0x07, 0x0F are unassigned and do nothing (D21). The last arm
is code 0x1F, the one value of five bits left. -/
def decodeCommand (cmd : BitVec 5) (bytes : List Byte) (times : List Nat) : Decoded :=
  match cmd.toNat with
  | 0x00 => readNone .unassigned00 bytes times
  | 0x01 => readBit .connect bytes times
  | 0x02 => readNone .reset bytes times
  | 0x03 => readGroup .rxFrame bytes times
  | 0x04 => readTime .txPoll bytes times
  | 0x05 => readTwoTimes .timeoutPoll bytes times
  | 0x06 => readTwoTimes .tick bytes times
  | 0x07 => readNone .unassigned07 bytes times
  | 0x08 => readBit .setOnOff bytes times
  | 0x09 => readByte .setTemp bytes times
  | 0x0A => readByte .setMode bytes times
  | 0x0B => readByte .setFanMode bytes times
  | 0x0C => readByte .setSwingMode bytes times
  | 0x0D => readByte .setSwingStep bytes times
  | 0x0E => readByte .setEconomyMode bytes times
  | 0x0F => readNone .unassigned0F bytes times
  | 0x10 => readNone .getOnOff bytes times
  | 0x11 => readNone .getTemp bytes times
  | 0x12 => readNone .getMode bytes times
  | 0x13 => readNone .getFanMode bytes times
  | 0x14 => readNone .getEconomyMode bytes times
  | 0x15 => readNone .getSwingMode bytes times
  | 0x16 => readNone .getSwingStep bytes times
  | 0x17 => readNone .getControllerTemp bytes times
  | 0x18 => readTime .isBound bytes times
  | 0x19 => readNone .updatePending bytes times
  | 0x1A => readTwoTimes .isTimedOut bytes times
  | 0x1B => readTime .readyToTransmit bytes times
  | 0x1C => readNone .phase bytes times
  | 0x1D => readFrame .cmdDecode bytes times
  | 0x1E => readRecord .cmdEncode bytes times
  | _ => readFrame .cmdInv bytes times

/-- The row of the frame map for a group (30_encoding.md R86): its class, and the role where the table has a row for
each. `b = INV(raw)` is the logical frame. -/
def decodeGroup (m : Mode) (raw : List Byte) (now : Nat) : Decoded :=
  if 8 < raw.length then .rejected .groupTooLong
  else
    let b := invFrame (Frame.ofList raw)
    match classify m raw, m.isPrimary with
    | .unconnected, _ => .ok (.rxUnconnected raw now)
    | .short, _ => .ok (.rxShort raw now)
    | .statusCp1, true => .ok (.rxStatusCp1Primary b now)
    | .statusCp1, false => .ok (.rxStatusCp1Secondary b now)
    | .statusCp0Pri, _ => .ok (.rxStatusCp0Pri b now)
    | .statusCp0Sec, _ => .ok (.rxStatusCp0Sec b now)
    | .login, true => .ok (.rxLoginPrimary b now)
    | .login, false => .ok (.rxLoginSecondary b now)
    | .error, true => .ok (.rxErrorPrimary b now)
    | .error, false => .ok (.rxErrorSecondary b now)
    | .reserved, true => .ok (.rxReservedPrimary b now)
    | .reserved, false => .ok (.rxReservedSecondary b now)
    | .observe, _ => .ok (.rxObserve b now)
    | .other, _ => .ok (.rxOther b now)

/-- The operation of an event, in the mode the block is in. -/
def decode (m : Mode) (p : Packet) : Decoded :=
  match p with
  | .command cmd bytes times => decodeCommand cmd bytes times
  | .group raw now => decodeGroup m raw now
  | .codecBytes b => .ok (.frameDecode b)
  | .codecRecord F => .ok (.frameEncode F)

/-- The reply shape of a logical frame the block builds (opcode table, format TXREPLY64; 43_session_fsm.md R177), for
the instance: the first row whose fixed bits it has. -/
def decodeReply (P : Params) (b : Frame) : Option Instr :=
  if hasShape P P.addrPrimary P.addrUnit P.mtStatus 0 1 0 b then some (.txStatusToUnitPrimary b)
  else if hasShape P P.addrSecondary P.addrUnit P.mtStatus 0 1 0 b then some (.txStatusToUnitSecondary b)
  else if hasShape P P.addrPrimary P.addrSecondary P.mtStatus 1 0 0 b then
    some (.txStatusToSecondaryPrimary b)
  else if hasShapeNoError P P.addrPrimary P.addrUnit P.mtLogin 0 0 0 b then
    some (.txLoginToUnitPrimary b)
  else if hasShape P P.addrSecondary P.addrUnit P.mtStatus 0 1 2 b then
    some (.txStatusMagic2ToUnitSecondary b)
  else if hasShapeNoWrite P P.addrPrimary P.addrSecondary P.mtLogin 1 1 0 b then
    some (.txLoginEchoToSecondaryPrimary b)
  else if hasShapeNoWrite P P.addrSecondary P.addrSecondary P.mtLogin 1 1 0 b then
    some (.txLoginEchoToSecondarySecondary b)
  else none

/-! ### The encoder -/

/-- The event of an operation: the code and operands of 30_encoding.md R90 for a command, the received wire bytes for a
row of the frame map, the codec's operand for a format row. `none` for the reply shapes, which are written by
`encodeReply`, and for the internal operations, which no event reaches (R91). -/
def encode : Instr → Option Packet
  | .frameDecode b => some (.codecBytes b)
  | .frameEncode F => some (.codecRecord F)
  | .rxStatusCp1Primary b now => some (.group (invFrame b).toList now)
  | .rxStatusCp1Secondary b now => some (.group (invFrame b).toList now)
  | .rxStatusCp0Pri b now => some (.group (invFrame b).toList now)
  | .rxStatusCp0Sec b now => some (.group (invFrame b).toList now)
  | .rxErrorPrimary b now => some (.group (invFrame b).toList now)
  | .rxErrorSecondary b now => some (.group (invFrame b).toList now)
  | .rxLoginPrimary b now => some (.group (invFrame b).toList now)
  | .rxLoginSecondary b now => some (.group (invFrame b).toList now)
  | .rxReservedPrimary b now => some (.group (invFrame b).toList now)
  | .rxReservedSecondary b now => some (.group (invFrame b).toList now)
  | .rxObserve b now => some (.group (invFrame b).toList now)
  | .rxOther b now => some (.group (invFrame b).toList now)
  | .rxShort raw now => some (.group raw now)
  | .rxUnconnected raw now => some (.group raw now)
  | .txStatusToUnitPrimary _ => none
  | .txStatusToUnitSecondary _ => none
  | .txStatusToSecondaryPrimary _ => none
  | .txLoginToUnitPrimary _ => none
  | .txStatusMagic2ToUnitSecondary _ => none
  | .txLoginEchoToSecondaryPrimary _ => none
  | .txLoginEchoToSecondarySecondary _ => none
  | .connect isSecondary => some (.command 0x01 [bitByte isSecondary] [])
  | .reset => some (.command 0x02 [] [])
  | .rxFrame raw now => some (.command 0x03 (groupBytes raw) [now])
  | .txPoll now => some (.command 0x04 [] [now])
  | .timeoutPoll now thresholdMs => some (.command 0x05 [] [now, thresholdMs])
  | .tick now thresholdMs => some (.command 0x06 [] [now, thresholdMs])
  | .setOnOff v => some (.command 0x08 [bitByte v] [])
  | .setTemp v => some (.command 0x09 [v] [])
  | .setMode v => some (.command 0x0A [v] [])
  | .setFanMode v => some (.command 0x0B [v] [])
  | .setSwingMode v => some (.command 0x0C [v] [])
  | .setSwingStep v => some (.command 0x0D [v] [])
  | .setEconomyMode v => some (.command 0x0E [v] [])
  | .getOnOff => some (.command 0x10 [] [])
  | .getTemp => some (.command 0x11 [] [])
  | .getMode => some (.command 0x12 [] [])
  | .getFanMode => some (.command 0x13 [] [])
  | .getEconomyMode => some (.command 0x14 [] [])
  | .getSwingMode => some (.command 0x15 [] [])
  | .getSwingStep => some (.command 0x16 [] [])
  | .getControllerTemp => some (.command 0x17 [] [])
  | .isBound now => some (.command 0x18 [] [now])
  | .updatePending => some (.command 0x19 [] [])
  | .isTimedOut now thresholdMs => some (.command 0x1A [] [now, thresholdMs])
  | .readyToTransmit now => some (.command 0x1B [] [now])
  | .phase => some (.command 0x1C [] [])
  | .cmdDecode b => some (.command 0x1D b.toList [])
  | .cmdEncode F => some (.command 0x1E F.toBytes [])
  | .cmdInv b => some (.command 0x1F b.toList [])
  | .unassigned00 => some (.command 0x00 [] [])
  | .unassigned07 => some (.command 0x07 [] [])
  | .unassigned0F => some (.command 0x0F [] [])
  | .onFrameReceived _ => none
  | .applyAndClear _ => none
  | .stage _ _ => none
  | .wireDecode _ => none
  | .wireEncode _ => none

/-- The logical frame of a reply shape: the row's word of the opcode table, its free bits those of the reply. -/
def encodeReply : Instr → Option Frame
  | .txStatusToUnitPrimary b => some b
  | .txStatusToUnitSecondary b => some b
  | .txStatusToSecondaryPrimary b => some b
  | .txLoginToUnitPrimary b => some b
  | .txStatusMagic2ToUnitSecondary b => some b
  | .txLoginEchoToSecondaryPrimary b => some b
  | .txLoginEchoToSecondarySecondary b => some b
  | .frameDecode _ | .frameEncode _ | .rxStatusCp1Primary _ _ | .rxStatusCp1Secondary _ _
  | .rxStatusCp0Pri _ _ | .rxStatusCp0Sec _ _ | .rxErrorPrimary _ _ | .rxErrorSecondary _ _
  | .rxLoginPrimary _ _ | .rxLoginSecondary _ _ | .rxReservedPrimary _ _
  | .rxReservedSecondary _ _ | .rxObserve _ _ | .rxOther _ _ | .rxShort _ _ | .rxUnconnected _ _
  | .connect _ | .reset | .rxFrame _ _ | .txPoll _ | .timeoutPoll _ _ | .tick _ _ | .setOnOff _
  | .setTemp _ | .setMode _ | .setFanMode _ | .setSwingMode _ | .setSwingStep _
  | .setEconomyMode _ | .getOnOff | .getTemp | .getMode | .getFanMode | .getEconomyMode
  | .getSwingMode | .getSwingStep | .getControllerTemp | .isBound _ | .updatePending
  | .isTimedOut _ _ | .readyToTransmit _ | .phase | .cmdDecode _ | .cmdEncode _ | .cmdInv _
  | .unassigned00 | .unassigned07 | .unassigned0F | .onFrameReceived _ | .applyAndClear _
  | .stage _ _ | .wireDecode _ | .wireEncode _ => none

/-! ### The words of the opcode table -/

/-- A command with every operand zero: the operands the opcode table gives no bits (assumption 3). -/
def zeroCommand (cmd : BitVec 5) : Packet :=
  match cmd with
  | 0x01#5 | 0x08#5 | 0x09#5 | 0x0A#5 | 0x0B#5 | 0x0C#5 | 0x0D#5 | 0x0E#5 => .command cmd [0] []
  | 0x03#5 => .command cmd [0] [0]
  | 0x04#5 | 0x18#5 | 0x1B#5 => .command cmd [] [0]
  | 0x05#5 | 0x06#5 | 0x1A#5 => .command cmd [] [0, 0]
  | 0x1D#5 | 0x1F#5 => .command cmd Frame.zero.toList []
  | 0x1E#5 => .command cmd ControlFrame.zero.toBytes []
  | _ => .command cmd [] []

/-- The mode in which a 64-bit frame word of the opcode table is read: connected, of the instance P0 for which the table
is written, in the SECONDARY role for a frame to `ADDR_SECONDARY` and in the PRIMARY role for any other (30_encoding.md
R87: in the PRIMARY role such a frame would be RX_OBSERVE). -/
def tableMode (b : Frame) : Mode :=
  let isPrimary := (decodeFrame Config.layoutP0 b).messageDest != Config.p0.addrSecondary
  { params := Config.p0, connected := true, isPrimary := isPrimary,
    own := if isPrimary then Config.p0.addrPrimary else Config.p0.addrSecondary }

/-- The event of a word of the opcode table: a command code (format CMD5), or a 64-bit logical frame, byte 0 most
significant (30_encoding.md R75), presented to the receiver as its wire bytes with `now` 0. -/
def tablePacket (nbits w : Nat) : Option Packet :=
  if nbits = 64 then some (.group (invFrame (Frame.ofNat64 w)).toList 0)
  else if nbits ≤ 8 ∧ w < 32 then some (zeroCommand (BitVec.ofNat 5 w))
  else none

/-- The operation the decoder reads from a word of the opcode table, its operands all zero. -/
def decodeTableWord (nbits w : Nat) : Option Instr :=
  match tablePacket nbits w with
  | none => none
  | some p =>
    match decode (tableMode (Frame.ofNat64 w)) p with
    | .ok i => some i
    | .rejected _ => none

end Sys2Proof
end

