-- ==== Sys2Proof/Machine/State.lean ====
section
/-! DEFINITION. The state of the machine: `Session`, the block's whole state `S` element by element (10_state.md R38),
and beside it the model's own fields (the instance, the events waiting, the outputs, the last time seen, the count of free
bits drawn). Plain data throughout. -/

namespace Sys2Proof.Machine

/-- The block's state `S` (10_state.md R38), one field per row of its table. -/
structure Session where
  /-- R31: 0 from power-on until the first `CONNECT`, 1 afterwards. -/
  connected : Bool
  /-- R32: the role. -/
  controllerIsPrimary : Bool
  /-- R33: the own address. -/
  controllerAddress : BitVec 7
  /-- R34. -/
  controllerLoggedIn : Bool
  /-- R35. -/
  seenSecondaryController : Bool
  /-- R36: milliseconds; the width TIME_W is left open (00_scope.md R9, D17). -/
  lastFrameReceived : Nat
  /-- R22. -/
  currentState : ControlFrame
  /-- R23: only the seven stageable fields are ever written or read. -/
  updateState : ControlFrame
  /-- R29: the seven dirty flags, bit 0 `onOff` to bit 6 `economyMode` (D30). -/
  updateFields : BitVec 7
  /-- R30. -/
  pendingFrame : Bool
  /-- R25: the queued reply in wire form. -/
  txBuf : Frame
  deriving DecidableEq, Repr

/-- The conceptual protocol phases (43_session_fsm.md R190): a function of the state, no part of it (10_state.md R28). -/
inductive Phase
  | disconnected | awaitingFirstContact | loggingIn | boundPrimaryNoSecondary
  | boundPrimaryWithSecondary | boundSecondary
  deriving DecidableEq, Repr

/-- What the block presents to the outside: the two emissions (00_scope.md R15) and the results of commands
(30_encoding.md R90, column "result"; 60_exceptions.md R206). -/
inductive Output
  /-- `emit TX(w)`: eight wire bytes for the transport. -/
  | tx (w : Frame)
  /-- `emit LOG(F)`: a decoded frame for the diagnostic sink (60_exceptions.md R215). -/
  | log (F : ControlFrame)
  /-- A field of `currentState`, the result of a getter. -/
  | value (v : Byte)
  /-- A 1-bit result. -/
  | bit (v : Bool)
  /-- The label of `PHASE`. -/
  | label (p : Phase)
  /-- A record, the result of a decode or of `APPLY_AND_CLEAR`. -/
  | record (F : ControlFrame)
  /-- Eight bytes, the result of an encode or of `INV`. -/
  | bytes (b : Frame)
  deriving DecidableEq, Repr

/-- The machine. -/
structure State where
  /-- The block's state. -/
  S : Session
  /-- The parameter instance (00_scope.md R5 to R9): fixed, written by no operation (70_reset_and_hazards.md R221). It is
  no element of `S` (10_state.md R42). Assumption 1. -/
  params : Params
  /-- The model's own: the `now` of the last timed event (70_reset_and_hazards.md R228 O2). Assumption 6. -/
  clock : Nat
  /-- The model's own: how many free bits have been drawn. Assumption 10. -/
  draws : Nat
  /-- The model's own: the events presented and not yet taken, oldest first. Assumption 3. -/
  inbox : List Packet
  /-- The model's own: everything emitted, oldest first. No operation reads it. Assumption 5. -/
  outbox : List Output
  deriving DecidableEq, Repr

/-- The faults of the machine: none. No operation of the block can trap, hang or leave the state undefined
(60_exceptions.md, opening; 93_implementation_defined.md, end of Part 1). -/
inductive Fault
  deriving DecidableEq, Repr

/-- Why the model declines an event. Each is a form outside the spec (70_reset_and_hazards.md R228, D32, U17). -/
inductive Refusal
  /-- Raised by `exec` for an instruction without a meaning: no arm raises it now. Safe. -/
  | notModelled (mnemonic : String)
  /-- Raised by every timed operation when its `now` is earlier than that of an earlier timed event (R228 O2). Safe: the
  spec asks a model to refuse it and defines no result. -/
  | timeDecreased
  /-- Raised by the receive operations for a group of more than 8 bytes (R228 O3, 20_memory.md R56). Safe: as above. -/
  | groupTooLong
  /-- Raised by the fetch when the parameter instance is not well formed (R228 O5). Safe: as above. -/
  | illFormedParams
  /-- Raised by the fetch for a packet that is no event of the spec (the decoder's reason is given). Safe. -/
  | malformed (e : DecodeError)
  deriving DecidableEq, Repr

/-- What the fetch finds: no event, an event the model declines, or an operation and the machine after the event has been
taken from the queue. -/
inductive Fetched
  | idle
  | declined (r : Refusal)
  | run (i : Instr) (s : State)
  deriving DecidableEq, Repr

/-- Power-on values of `S` (10_state.md R38, column "pw"; 70_reset_and_hazards.md R220, D15) for an instance. -/
def Session.powerOn (P : Params) : Session where
  connected               := false
  controllerIsPrimary     := true
  controllerAddress       := P.addrPrimary
  controllerLoggedIn      := false
  seenSecondaryController := false
  lastFrameReceived       := 0
  currentState            := ControlFrame.zero
  updateState             := ControlFrame.zero
  updateFields            := 0
  pendingFrame            := false
  txBuf                   := Frame.zero

/-- The machine built with an instance, after power-on, with no event presented. -/
def State.powerOn (P : Params) : State where
  S      := Session.powerOn P
  params := P
  clock  := 0
  draws  := 0
  inbox  := []
  outbox := []

/-- The machine right after reset, with the default instance P0 (PRESUMED, unsafe for a claim about a chip: assumptions 1
and 2). The model's own fields are empty or zero (DESIGN CHOICE: assumptions 3, 5, 6, 10). -/
def State.reset : State := State.powerOn Config.p0

end Sys2Proof.Machine
end

