-- ==== Sys2Proof/Machine/Flags.lean ====
section
/-! DEFINITION. The flags: the seven dirty flags of `updateFields` (10_state.md R29), the transmit flag `pendingFrame`
(R30) and the conditions computed from time (42_transport_timer.md R141 to R143, R147). The block has no arithmetic
status flags (R31). -/

namespace Sys2Proof.Machine

/-- The bit of a field in the mask (10_state.md R29, D30; not observable). -/
def dirtyIndex (f : StageField) : Nat :=
  match f with
  | .onOff => 0
  | .temperature => 1
  | .acMode => 2
  | .fanMode => 3
  | .swingMode => 4
  | .swingStep => 5
  | .economyMode => 6

/-- `dirty.f` (10_state.md R29). -/
def isDirty (flags : BitVec 7) (f : StageField) : Bool := flags.getLsbD (dirtyIndex f)

/-- The mask with `dirty.f` set. -/
def setDirty (flags : BitVec 7) (f : StageField) : BitVec 7 := flags ||| ((1 : BitVec 7) <<< dirtyIndex f)

/-- `UPDATE_PENDING`: any of the seven flags is 1 (41_pending_update.md R123). -/
def anyDirty (flags : BitVec 7) : Bool := flags != 0

/-- `elapsed(now) = now - S.lastFrameReceived` (00_scope.md R14, 42_transport_timer.md R147). -/
def Session.elapsed (S : Session) (now : Nat) : Nat := now - S.lastFrameReceived

/-- `READY_TO_TRANSMIT` (42_transport_timer.md R141). -/
def Session.ready (S : Session) (P : Params) (now : Nat) : Bool :=
  S.pendingFrame && decide (P.guardMs ≤ S.elapsed now)

/-- `IS_TIMED_OUT` (42_transport_timer.md R143). -/
def Session.timedOut (S : Session) (now thresholdMs : Nat) : Bool := decide (thresholdMs ≤ S.elapsed now)

/-- The corner in which the result of `IS_BOUND` is unspecified (42_transport_timer.md R142, D19). -/
def Session.boundUnspecified (S : Session) (P : Params) (now : Nat) : Bool :=
  decide (S.lastFrameReceived = 0) && decide (now < P.boundMs)

/-- `IS_BOUND` outside that corner (42_transport_timer.md R142). -/
def Session.bound (S : Session) (P : Params) (now : Nat) : Bool := decide (S.elapsed now < P.boundMs)

/-- `PHASE` (43_session_fsm.md R190, D33). -/
def Session.phase (S : Session) : Phase :=
  if S.connected = false then .disconnected
  else if S.controllerLoggedIn = false then
    if S.lastFrameReceived = 0 then .awaitingFirstContact else .loggingIn
  else if S.controllerIsPrimary = false then .boundSecondary
  else if S.seenSecondaryController = true then .boundPrimaryWithSecondary
  else .boundPrimaryNoSecondary

end Sys2Proof.Machine
end

