-- ==== Sys2Proof/Machine/Ops.lean ====
section
/-! DEFINITION. The named operations over the state that the meanings share: staging, merging, persisting, queueing,
the session reset (in the place of taking a trap, 60_exceptions.md R210; there is no return operation, R211), connecting,
emitting, the check of time, and taking an event from the queue. -/

namespace Sys2Proof.Machine

/-! ### On the block's state -/

/-- `ON_FRAME_RECEIVED(now)` (42_transport_timer.md R140). -/
def Session.onFrameReceived (S : Session) (now : Nat) : Session := { S with lastFrameReceived := now }

/-- The first step of 43_session_fsm.md R168: `controllerLoggedIn <- 1` (D12). -/
def Session.login (S : Session) : Session := { S with controllerLoggedIn := true }

/-- `STAGE(f, v)` (41_pending_update.md R121): the operand truncated to the field's width, the flag set. -/
def Session.stage (S : Session) (L : Layout) (f : StageField) (v : Byte) : Session :=
  { S with
    updateState := S.updateState.setBody f.toBody (truncTo (L.width f.toBody) v)
    updateFields := setDirty S.updateFields f }

/-- The record `APPLY_AND_CLEAR` returns (41_pending_update.md R124): every dirty field overwritten. -/
def Session.applied (S : Session) (R : ControlFrame) : ControlFrame :=
  StageField.all.foldl
    (fun R f => if isDirty S.updateFields f then R.setBody f.toBody (S.updateState.body f.toBody) else R) R

/-- The state after `APPLY_AND_CLEAR` (41_pending_update.md R124): all seven flags cleared. -/
def Session.clearDirty (S : Session) : Session := { S with updateFields := 0 }

/-- The merged reply (43_session_fsm.md R171): with anything staged, `writeBit` 1 and the dirty fields overwritten. -/
def Session.merged (S : Session) (R : ControlFrame) : ControlFrame :=
  if anyDirty S.updateFields then S.applied { R with writeBit := 1 } else R

/-- Persist (43_session_fsm.md R172): `S.currentState <- R`. -/
def Session.persist (S : Session) (R : ControlFrame) : Session := { S with currentState := R }

/-- Queue (43_session_fsm.md R174): `S.txBuf <- INV(ENCODE(R))`, `S.pendingFrame <- 1`; a reply still queued is replaced
(D24). -/
def Session.queue (S : Session) (L : Layout) (R : ControlFrame) : Session :=
  { S with txBuf := wireEncodeFrame L R, pendingFrame := true }

/-- The end of every STATUS class: merge (R171), clear the flags (R124), persist (R172), queue (R174), for the base reply
`R`. With nothing staged the flags are zero already. -/
def Session.answer (S : Session) (L : Layout) (R : ControlFrame) : Session :=
  ((S.clearDirty).persist (S.merged R)).queue L (S.merged R)

/-- The observed frame (43_session_fsm.md R162). -/
def Session.observe (S : Session) (F : ControlFrame) : Session :=
  { S with
    seenSecondaryController := true
    currentState := { S.currentState with controllerTemp := F.controllerTemp } }

/-- `S.pendingFrame <- 0`: the queued reply has been handed to the transport (42_transport_timer.md R145). `txBuf` keeps
its bytes (U11). -/
def Session.sent (S : Session) : Session := { S with pendingFrame := false }

/-- The session reset (43_session_fsm.md R194, 60_exceptions.md R210): exactly three elements; nothing is saved. -/
def Session.resetSession (S : Session) : Session :=
  { S with controllerLoggedIn := false, seenSecondaryController := false, lastFrameReceived := 0 }

/-- `CONNECT(isSecondary)` (43_session_fsm.md R193). -/
def Session.connect (S : Session) (P : Params) (isSecondary : Bool) : Session :=
  { S with
    controllerIsPrimary := !isSecondary
    controllerAddress := if isSecondary then P.addrSecondary else P.addrPrimary
    controllerLoggedIn := false
    seenSecondaryController := false
    lastFrameReceived := 0
    pendingFrame := false
    connected := true }

/-! ### On the machine -/

/-- The mode the frame map is read in. -/
def State.mode (s : State) : Mode where
  params    := s.params
  connected := s.S.connected
  isPrimary := s.S.controllerIsPrimary
  own       := s.S.controllerAddress

/-- The machine with another state of the block. -/
def State.withS (s : State) (S : Session) : State := { s with S := S }

/-- Present an output (00_scope.md R15). -/
def State.emit (s : State) (o : Output) : State := { s with outbox := s.outbox ++ [o] }

/-- The machine with `now` as the time of its last timed event. -/
def State.at (s : State) (now : Nat) : State := { s with clock := now }

/-- The machine after a free bit has been drawn. -/
def State.draw (s : State) : State := { s with draws := s.draws + 1 }

/-- A timed operation at `now`: the successive times do not decrease (70_reset_and_hazards.md R228 O2); a decreasing one
is refused, as D32 asks. -/
def timed (now : Nat) (s : State) (k : State → State) : Host.Outcome State Fault Refusal :=
  if now < s.clock then .refused .timeDecreased else .next (k (s.at now))

/-- Take the next event (20_memory.md R62). With none presented the block does nothing (assumption 4); an instance that is
not well formed is refused (70_reset_and_hazards.md R228 O5). -/
def fetch (s : State) : Fetched :=
  match s.inbox with
  | [] => .idle
  | p :: rest =>
    if s.params.wf = false then .declined .illFormedParams
    else
      match decode s.mode p with
      | .ok i => .run i { s with inbox := rest }
      | .rejected e => .declined (.malformed e)

end Sys2Proof.Machine
end

