-- ==== Sys2Proof/Machine/ExecCodec.lean ====
section
/-! DEFINITION. The meanings of the codec operations (40_codec.md): pure, their result presented as an output. -/

namespace Sys2Proof.Machine

/-- `FRAME.decode`: the record of a logical frame (40_codec.md R102); nothing of `S` is read or written. -/
def execFrameDecode (b : Frame) (s : State) : Host.Outcome State Fault Refusal :=
  .next (s.emit (.record (decodeFrame s.params.layout b)))

/-- `FRAME.encode`: the logical frame of a record (40_codec.md R103). -/
def execFrameEncode (F : ControlFrame) (s : State) : Host.Outcome State Fault Refusal :=
  .next (s.emit (.bytes (encodeFrame s.params.layout F)))

/-- `DECODE`, command 0x1D (40_codec.md R102). -/
def execCmdDecode (b : Frame) (s : State) : Host.Outcome State Fault Refusal :=
  .next (s.emit (.record (decodeFrame s.params.layout b)))

/-- `ENCODE`, command 0x1E (40_codec.md R103). -/
def execCmdEncode (F : ControlFrame) (s : State) : Host.Outcome State Fault Refusal :=
  .next (s.emit (.bytes (encodeFrame s.params.layout F)))

/-- `INV`, command 0x1F (40_codec.md R100). -/
def execCmdInv (b : Frame) (s : State) : Host.Outcome State Fault Refusal :=
  .next (s.emit (.bytes (invFrame b)))

/-- `WIRE_DECODE` (40_codec.md R104). -/
def execWireDecode (w : Frame) (s : State) : Host.Outcome State Fault Refusal :=
  .next (s.emit (.record (wireDecodeFrame s.params.layout w)))

/-- `WIRE_ENCODE` (40_codec.md R105). -/
def execWireEncode (F : ControlFrame) (s : State) : Host.Outcome State Fault Refusal :=
  .next (s.emit (.bytes (wireEncodeFrame s.params.layout F)))


end Sys2Proof.Machine
end

