-- ==== Sys2Proof/Machine/ExecPending.lean ====
section
/-! DEFINITION. The meanings of the PendingUpdateSet operations (41_pending_update.md). -/

namespace Sys2Proof.Machine

/-- `STAGE` on the machine (41_pending_update.md R121). -/
def State.staged (s : State) (f : StageField) (v : Byte) : State := s.withS (s.S.stage s.params.layout f v)

/-- `STAGE(f, v)` (41_pending_update.md R121). -/
def execStage (f : StageField) (v : Byte) (s : State) : Host.Outcome State Fault Refusal :=
  .next (s.staged f v)

/-- `SET_ONOFF v`, `v` one bit, 1 for true (41_pending_update.md R125). -/
def execSetOnOff (v : Bool) (s : State) : Host.Outcome State Fault Refusal :=
  .next (s.staged .onOff (bitByte v))

/-- `SET_TEMP v` (41_pending_update.md R126). -/
def execSetTemp (v : Byte) (s : State) : Host.Outcome State Fault Refusal :=
  .next (s.staged .temperature v)

/-- `SET_MODE v` (41_pending_update.md R127). -/
def execSetMode (v : Byte) (s : State) : Host.Outcome State Fault Refusal :=
  .next (s.staged .acMode v)

/-- `SET_FANMODE v` (41_pending_update.md R128). -/
def execSetFanMode (v : Byte) (s : State) : Host.Outcome State Fault Refusal :=
  .next (s.staged .fanMode v)

/-- `SET_SWINGMODE v` (41_pending_update.md R129). -/
def execSetSwingMode (v : Byte) (s : State) : Host.Outcome State Fault Refusal :=
  .next (s.staged .swingMode v)

/-- `SET_SWINGSTEP v` (41_pending_update.md R130). -/
def execSetSwingStep (v : Byte) (s : State) : Host.Outcome State Fault Refusal :=
  .next (s.staged .swingStep v)

/-- `SET_ECONOMYMODE v` (41_pending_update.md R131). -/
def execSetEconomyMode (v : Byte) (s : State) : Host.Outcome State Fault Refusal :=
  .next (s.staged .economyMode v)

/-- `UPDATE_PENDING` (41_pending_update.md R123). -/
def execUpdatePending (s : State) : Host.Outcome State Fault Refusal :=
  .next (s.emit (.bit (anyDirty s.S.updateFields)))

/-- `APPLY_AND_CLEAR(R)` (41_pending_update.md R124): the merged record is the result, the flags are cleared. -/
def execApplyAndClear (R : ControlFrame) (s : State) : Host.Outcome State Fault Refusal :=
  .next ((s.withS s.S.clearDirty).emit (.record (s.S.applied R)))


end Sys2Proof.Machine
end

