-- ==== Sys2Proof/Machine/Reply.lean ====
section
/-! DEFINITION. The base replies (43_session_fsm.md R166 to R173, R177): each starts as a copy of the decoded inbound
frame (R167, D9), with the three common overwrites (D10) and those of its class. -/

namespace Sys2Proof.Machine

/-- The overwrites common to all replies (43_session_fsm.md R167): `messageSource <- zext_8(A)`, `unknownBit <- 1`,
`writeBit <- 0`. -/
def Session.baseReply (S : Session) (F : ControlFrame) : ControlFrame :=
  { F with messageSource := S.controllerAddress.setWidth 8, unknownBit := 1, writeBit := 0 }

/-- The reply to RX_STATUS_CP1 with no secondary seen (43_session_fsm.md R168). -/
def Session.replyStatusToUnit (S : Session) (P : Params) (F : ControlFrame) : ControlFrame :=
  { S.baseReply F with
    messageType := P.mtStatus, updateMagic := 0,
    messageDest := P.addrUnit, loginBit := 0, controllerPresent := 1 }

/-- The reply to RX_STATUS_CP1 with a secondary seen (43_session_fsm.md R168). -/
def Session.replyStatusToSecondary (S : Session) (P : Params) (F : ControlFrame) : ControlFrame :=
  { S.baseReply F with
    messageType := P.mtStatus, updateMagic := 0,
    messageDest := P.addrSecondary, loginBit := 1, controllerPresent := 0 }

/-- The reply to RX_STATUS_CP0_PRI (43_session_fsm.md R169): a LOGIN frame, the seven operating fields zero (R166). -/
def Session.replyLoginToUnit (S : Session) (P : Params) (F : ControlFrame) : ControlFrame :=
  { S.baseReply F with
    messageDest := P.addrUnit, messageType := P.mtLogin, loginBit := 0, controllerPresent := 0,
    updateMagic := 0,
    onOff := 0, temperature := 0, acMode := 0, fanMode := 0, swingMode := 0, swingStep := 0,
    acError := 0 }

/-- The reply to RX_STATUS_CP0_SEC (43_session_fsm.md R170). -/
def Session.replyStatusMagic2 (S : Session) (P : Params) (F : ControlFrame) : ControlFrame :=
  { S.baseReply F with
    messageDest := P.addrUnit, messageType := P.mtStatus, loginBit := 0, controllerPresent := 1,
    updateMagic := 2 }

/-- The reply to RX_LOGIN (43_session_fsm.md R173): the operating fields of `currentState`; the type of the inbound frame
is kept (D14). -/
def Session.replyLoginEcho (S : Session) (P : Params) (F : ControlFrame) : ControlFrame :=
  { S.baseReply F with
    messageDest := P.addrSecondary, loginBit := 1, controllerPresent := 1, updateMagic := 0,
    onOff := S.currentState.onOff, temperature := S.currentState.temperature,
    acMode := S.currentState.acMode, fanMode := S.currentState.fanMode,
    swingMode := S.currentState.swingMode, swingStep := S.currentState.swingStep,
    acError := S.currentState.acError }

/-! ### The reactions to the classes of an inbound group, for the logical frame `b` at `now` -/

/-- RX_STATUS_CP1 (43_session_fsm.md R161, R168, R171, R172, R174). -/
def State.reactStatusCp1 (s : State) (b : Frame) (now : Nat) : State :=
  let S := (s.S.onFrameReceived now).login
  let F := decodeFrame s.params.layout b
  s.withS (S.answer s.params.layout
    (if S.seenSecondaryController then S.replyStatusToSecondary s.params F
     else S.replyStatusToUnit s.params F))

/-- RX_STATUS_CP0_PRI (43_session_fsm.md R161, R169, R171, R172, R174). -/
def State.reactStatusCp0Pri (s : State) (b : Frame) (now : Nat) : State :=
  let S := s.S.onFrameReceived now
  s.withS (S.answer s.params.layout (S.replyLoginToUnit s.params (decodeFrame s.params.layout b)))

/-- RX_STATUS_CP0_SEC (43_session_fsm.md R161, R170, R171, R172, R174). -/
def State.reactStatusCp0Sec (s : State) (b : Frame) (now : Nat) : State :=
  let S := s.S.onFrameReceived now
  s.withS (S.answer s.params.layout (S.replyStatusMagic2 s.params (decodeFrame s.params.layout b)))

/-- RX_LOGIN (43_session_fsm.md R161, R173, R174): no merge, nothing persisted. -/
def State.reactLogin (s : State) (b : Frame) (now : Nat) : State :=
  let S := s.S.onFrameReceived now
  s.withS (S.queue s.params.layout (S.replyLoginEcho s.params (decodeFrame s.params.layout b)))

/-- RX_ERROR (43_session_fsm.md R161, R175): logged, not answered. -/
def State.reactError (s : State) (b : Frame) (now : Nat) : State :=
  (s.withS (s.S.onFrameReceived now)).emit (.log (decodeFrame s.params.layout b))

/-- RX_RESERVED (43_session_fsm.md R161, R176). -/
def State.reactReserved (s : State) (now : Nat) : State := s.withS (s.S.onFrameReceived now)

/-- RX_OBSERVE (43_session_fsm.md R162). -/
def State.reactObserve (s : State) (b : Frame) : State :=
  s.withS (s.S.observe (decodeFrame s.params.layout b))

/-- The reaction to a group of a class: `raw` is the group, `INV(raw)` the logical frame. Unconnected, short and other
groups are dropped (43_session_fsm.md R160, R163). -/
def State.react (s : State) (c : FrameClass) (raw : List Byte) (now : Nat) : State :=
  let b := invFrame (Frame.ofList raw)
  match c with
  | .unconnected => s
  | .short => s
  | .statusCp1 => s.reactStatusCp1 b now
  | .statusCp0Pri => s.reactStatusCp0Pri b now
  | .statusCp0Sec => s.reactStatusCp0Sec b now
  | .login => s.reactLogin b now
  | .error => s.reactError b now
  | .reserved => s.reactReserved now
  | .observe => s.reactObserve b
  | .other => s

/-- `RX_FRAME(n, raw, now)` (43_session_fsm.md R160): a group of more than 8 bytes is refused (70_reset_and_hazards.md R228
O3, D32); any other is classified and its class's reaction done. -/
def receive (raw : List Byte) (now : Nat) (s : State) : Host.Outcome State Fault Refusal :=
  if 8 < raw.length then .refused .groupTooLong
  else timed now s fun s => s.react (classify s.mode raw) raw now

/-- A row of the frame map: where the frame is of the row's class and role (`holds`), the reaction is the row's own; a
frame presented outside the row's condition is of another class and gets that class's reaction (30_encoding.md R86;
assumption 21). -/
def asRow (holds : Bool) (b : Frame) (now : Nat) (s : State) (k : State → State) :
    Host.Outcome State Fault Refusal :=
  if holds then timed now s k else receive (invFrame b).toList now s

/-- The same for a group without a frame (classes RX_SHORT and RX_UNCONNECTED): the group is dropped. -/
def asDropped (holds : Bool) (raw : List Byte) (now : Nat) (s : State) : Host.Outcome State Fault Refusal :=
  if holds then timed now s fun s => s else receive raw now s

/-- A reply of a STATUS class built on the record of `b` (43_session_fsm.md R167, R171, R172, R174). -/
def State.buildStatus (s : State) (reply : Session → Params → ControlFrame → ControlFrame) (b : Frame) : State :=
  s.withS (s.S.answer s.params.layout (reply s.S s.params (decodeFrame s.params.layout b)))

/-- A reply to a LOGIN frame built on the record of `b` (43_session_fsm.md R167, R173, R174). -/
def State.buildEcho (s : State) (b : Frame) : State :=
  s.withS (s.S.queue s.params.layout (s.S.replyLoginEcho s.params (decodeFrame s.params.layout b)))

end Sys2Proof.Machine
end

