-- ==== Sys2Proof/Machine/ExecReceive.lean ====
section
/-! DEFINITION. The meanings of the receive classes (43_session_fsm.md R160 to R176), each timed (70_reset_and_hazards.md R228 O2). -/

namespace Sys2Proof.Machine

/-- `RX_STATUS_CP1.PRIMARY` (43_session_fsm.md R168). -/
def execRxStatusCp1Primary (b : Frame) (now : Nat) (s : State) : Host.Outcome State Fault Refusal :=
  asRow (rowHolds s.mode .statusCp1 true b) b now s fun s => s.reactStatusCp1 b now

/-- `RX_STATUS_CP1.SECONDARY` (43_session_fsm.md R168). -/
def execRxStatusCp1Secondary (b : Frame) (now : Nat) (s : State) : Host.Outcome State Fault Refusal :=
  asRow (rowHolds s.mode .statusCp1 false b) b now s fun s => s.reactStatusCp1 b now

/-- `RX_STATUS_CP0_PRI` (43_session_fsm.md R169). -/
def execRxStatusCp0Pri (b : Frame) (now : Nat) (s : State) : Host.Outcome State Fault Refusal :=
  asRow (rowHolds s.mode .statusCp0Pri true b) b now s fun s => s.reactStatusCp0Pri b now

/-- `RX_STATUS_CP0_SEC` (43_session_fsm.md R170). -/
def execRxStatusCp0Sec (b : Frame) (now : Nat) (s : State) : Host.Outcome State Fault Refusal :=
  asRow (rowHolds s.mode .statusCp0Sec false b) b now s fun s => s.reactStatusCp0Sec b now

/-- `RX_ERROR.PRIMARY` (43_session_fsm.md R175). -/
def execRxErrorPrimary (b : Frame) (now : Nat) (s : State) : Host.Outcome State Fault Refusal :=
  asRow (rowHolds s.mode .error true b) b now s fun s => s.reactError b now

/-- `RX_ERROR.SECONDARY` (43_session_fsm.md R175). -/
def execRxErrorSecondary (b : Frame) (now : Nat) (s : State) : Host.Outcome State Fault Refusal :=
  asRow (rowHolds s.mode .error false b) b now s fun s => s.reactError b now

/-- `RX_LOGIN.PRIMARY` (43_session_fsm.md R173). -/
def execRxLoginPrimary (b : Frame) (now : Nat) (s : State) : Host.Outcome State Fault Refusal :=
  asRow (rowHolds s.mode .login true b) b now s fun s => s.reactLogin b now

/-- `RX_LOGIN.SECONDARY` (43_session_fsm.md R173). -/
def execRxLoginSecondary (b : Frame) (now : Nat) (s : State) : Host.Outcome State Fault Refusal :=
  asRow (rowHolds s.mode .login false b) b now s fun s => s.reactLogin b now

/-- `RX_RESERVED.PRIMARY` (43_session_fsm.md R176). -/
def execRxReservedPrimary (b : Frame) (now : Nat) (s : State) : Host.Outcome State Fault Refusal :=
  asRow (rowHolds s.mode .reserved true b) b now s fun s => s.reactReserved now

/-- `RX_RESERVED.SECONDARY` (43_session_fsm.md R176). -/
def execRxReservedSecondary (b : Frame) (now : Nat) (s : State) : Host.Outcome State Fault Refusal :=
  asRow (rowHolds s.mode .reserved false b) b now s fun s => s.reactReserved now

/-- `RX_OBSERVE` (43_session_fsm.md R162). -/
def execRxObserve (b : Frame) (now : Nat) (s : State) : Host.Outcome State Fault Refusal :=
  asRow (classHolds s.mode .observe b) b now s fun s => s.reactObserve b

/-- `RX_OTHER`: ignored (43_session_fsm.md R163). -/
def execRxOther (b : Frame) (now : Nat) (s : State) : Host.Outcome State Fault Refusal :=
  asRow (classHolds s.mode .other b) b now s fun s => s

/-- `RX_SHORT`: dropped (20_memory.md R57, 43_session_fsm.md R160). -/
def execRxShort (raw : List Byte) (now : Nat) (s : State) : Host.Outcome State Fault Refusal :=
  asDropped (classify s.mode raw == .short) raw now s

/-- `RX_UNCONNECTED`: dropped (43_session_fsm.md R160, D26). -/
def execRxUnconnected (raw : List Byte) (now : Nat) (s : State) : Host.Outcome State Fault Refusal :=
  asDropped (decide (raw.length ≤ 8) && classify s.mode raw == .unconnected) raw now s


end Sys2Proof.Machine
end

