-- ==== Sys2Proof/Machine/ExecReply.lean ====
section
/-! DEFINITION. The meanings of the reply shapes (opcode table, format TXREPLY64; 43_session_fsm.md R167 to R174,
R177): the building of that reply on the record of a base frame, and its queueing; for the STATUS classes the merge, the
clearing of the flags and the persisting too. The source is the own address `A` (R167), which is the row's in the row's role.
The timestamp and `controllerLoggedIn` belong to the receive classes. Assumption 22. -/

namespace Sys2Proof.Machine

/-- `TX_STATUS_TO_UNIT.PRIMARY` (43_session_fsm.md R168, R167, R177). -/
def execTxStatusToUnitPrimary (b : Frame) (s : State) : Host.Outcome State Fault Refusal :=
  .next (s.buildStatus Session.replyStatusToUnit b)

/-- `TX_STATUS_TO_UNIT.SECONDARY` (43_session_fsm.md R168, R167, R177). -/
def execTxStatusToUnitSecondary (b : Frame) (s : State) : Host.Outcome State Fault Refusal :=
  .next (s.buildStatus Session.replyStatusToUnit b)

/-- `TX_STATUS_TO_SECONDARY.PRIMARY` (43_session_fsm.md R168, R167, R177). -/
def execTxStatusToSecondaryPrimary (b : Frame) (s : State) : Host.Outcome State Fault Refusal :=
  .next (s.buildStatus Session.replyStatusToSecondary b)

/-- `TX_LOGIN_TO_UNIT.PRIMARY` (43_session_fsm.md R169, R167, R177). -/
def execTxLoginToUnitPrimary (b : Frame) (s : State) : Host.Outcome State Fault Refusal :=
  .next (s.buildStatus Session.replyLoginToUnit b)

/-- `TX_STATUS_MAGIC2_TO_UNIT.SECONDARY` (43_session_fsm.md R170, R167, R177). -/
def execTxStatusMagic2ToUnitSecondary (b : Frame) (s : State) : Host.Outcome State Fault Refusal :=
  .next (s.buildStatus Session.replyStatusMagic2 b)

/-- `TX_LOGIN_ECHO_TO_SECONDARY.PRIMARY` (43_session_fsm.md R173, R167, R177). -/
def execTxLoginEchoToSecondaryPrimary (b : Frame) (s : State) : Host.Outcome State Fault Refusal :=
  .next (s.buildEcho b)

/-- `TX_LOGIN_ECHO_TO_SECONDARY.SECONDARY` (43_session_fsm.md R173, R167, R177). -/
def execTxLoginEchoToSecondarySecondary (b : Frame) (s : State) : Host.Outcome State Fault Refusal :=
  .next (s.buildEcho b)


end Sys2Proof.Machine
end

