-- ==== Sys2Proof/Machine/ExecSession.lean ====
section
/-! DEFINITION. The meanings of the session commands, the getters and the unassigned codes (43_session_fsm.md, 30_encoding.md R90). -/

namespace Sys2Proof.Machine

/-- `CONNECT(isSecondary)` (43_session_fsm.md R193). -/
def execConnect (isSecondary : Bool) (s : State) : Host.Outcome State Fault Refusal :=
  .next (s.withS (s.S.connect s.params isSecondary))

/-- `RESET` (43_session_fsm.md R194). -/
def execReset (s : State) : Host.Outcome State Fault Refusal :=
  .next (s.withS s.S.resetSession)

/-- `RX_FRAME(n, raw, now)`, `n` the number of bytes (43_session_fsm.md R160). -/
def execRxFrame (raw : List Byte) (now : Nat) (s : State) : Host.Outcome State Fault Refusal :=
  receive raw now s

/-- `PHASE` (43_session_fsm.md R190). -/
def execPhase (s : State) : Host.Outcome State Fault Refusal :=
  .next (s.emit (.label s.S.phase))

/-- `GET_ONOFF` (43_session_fsm.md R182, R197). -/
def execGetOnOff (s : State) : Host.Outcome State Fault Refusal :=
  .next (s.emit (.value s.S.currentState.onOff))

/-- `GET_TEMP` (43_session_fsm.md R183, R197). -/
def execGetTemp (s : State) : Host.Outcome State Fault Refusal :=
  .next (s.emit (.value s.S.currentState.temperature))

/-- `GET_MODE` (43_session_fsm.md R184, R197). -/
def execGetMode (s : State) : Host.Outcome State Fault Refusal :=
  .next (s.emit (.value s.S.currentState.acMode))

/-- `GET_FANMODE` (43_session_fsm.md R185, R197). -/
def execGetFanMode (s : State) : Host.Outcome State Fault Refusal :=
  .next (s.emit (.value s.S.currentState.fanMode))

/-- `GET_ECONOMYMODE` (43_session_fsm.md R186, R197). -/
def execGetEconomyMode (s : State) : Host.Outcome State Fault Refusal :=
  .next (s.emit (.value s.S.currentState.economyMode))

/-- `GET_SWINGMODE` (43_session_fsm.md R187, R197). -/
def execGetSwingMode (s : State) : Host.Outcome State Fault Refusal :=
  .next (s.emit (.value s.S.currentState.swingMode))

/-- `GET_SWINGSTEP` (43_session_fsm.md R188, R197). -/
def execGetSwingStep (s : State) : Host.Outcome State Fault Refusal :=
  .next (s.emit (.value s.S.currentState.swingStep))

/-- `GET_CONTROLLERTEMP` (43_session_fsm.md R189, R197). -/
def execGetControllerTemp (s : State) : Host.Outcome State Fault Refusal :=
  .next (s.emit (.value s.S.currentState.controllerTemp))

/-- The unassigned command code 0x00: no effect (30_encoding.md R90, D21). -/
def execUnassigned00 (s : State) : Host.Outcome State Fault Refusal :=
  .next s

/-- The unassigned command code 0x07: no effect (30_encoding.md R90, D21). -/
def execUnassigned07 (s : State) : Host.Outcome State Fault Refusal :=
  .next s

/-- The unassigned command code 0x0F: no effect (30_encoding.md R90, D21). -/
def execUnassigned0F (s : State) : Host.Outcome State Fault Refusal :=
  .next s


end Sys2Proof.Machine
end

