-- ==== Sys2Proof/Machine/ExecTimer.lean ====
section
/-! DEFINITION. The meanings of the TransportTimer operations (42_transport_timer.md). -/

namespace Sys2Proof.Machine

/-- `TX_POLL` on the machine (42_transport_timer.md R145): when ready, the bytes of `txBuf` are emitted and
`pendingFrame` is cleared. -/
def State.txPoll (s : State) (now : Nat) : State :=
  if s.S.ready s.params now then (s.withS s.S.sent).emit (.tx s.S.txBuf) else s

/-- `TIMEOUT_POLL` on the machine (42_transport_timer.md R144): when timed out, the session reset. -/
def State.timeoutPoll (s : State) (now thresholdMs : Nat) : State :=
  if s.S.timedOut now thresholdMs then s.withS s.S.resetSession else s

/-- `IS_BOUND` on the machine (42_transport_timer.md R142): in the unspecified corner a free bit is drawn. -/
def State.isBound (s : State) (now : Nat) : State :=
  if s.S.boundUnspecified s.params now then s.draw.emit (.bit (Config.freeBit s.draws))
  else s.emit (.bit (s.S.bound s.params now))

/-- `ON_FRAME_RECEIVED(now)` (42_transport_timer.md R140). -/
def execOnFrameReceived (now : Nat) (s : State) : Host.Outcome State Fault Refusal :=
  timed now s fun s => s.withS (s.S.onFrameReceived now)

/-- `READY_TO_TRANSMIT(now)` (42_transport_timer.md R141). -/
def execReadyToTransmit (now : Nat) (s : State) : Host.Outcome State Fault Refusal :=
  timed now s fun s => s.emit (.bit (s.S.ready s.params now))

/-- `IS_BOUND(now)` (42_transport_timer.md R142). -/
def execIsBound (now : Nat) (s : State) : Host.Outcome State Fault Refusal :=
  timed now s fun s => s.isBound now

/-- `IS_TIMED_OUT(now, thresholdMs)` (42_transport_timer.md R143). -/
def execIsTimedOut (now thresholdMs : Nat) (s : State) : Host.Outcome State Fault Refusal :=
  timed now s fun s => s.emit (.bit (s.S.timedOut now thresholdMs))

/-- `TIMEOUT_POLL(now, thresholdMs)` (42_transport_timer.md R144). -/
def execTimeoutPoll (now thresholdMs : Nat) (s : State) : Host.Outcome State Fault Refusal :=
  timed now s fun s => s.timeoutPoll now thresholdMs

/-- `TX_POLL(now)` (42_transport_timer.md R145). -/
def execTxPoll (now : Nat) (s : State) : Host.Outcome State Fault Refusal :=
  timed now s fun s => s.txPoll now

/-- `TICK(now, thresholdMs)` (42_transport_timer.md R146, D20): `TX_POLL`, then `TIMEOUT_POLL`, at the same time. -/
def execTick (now thresholdMs : Nat) (s : State) : Host.Outcome State Fault Refusal :=
  timed now s fun s => (s.txPoll now).timeoutPoll now thresholdMs


end Sys2Proof.Machine
end

