-- ==== Sys2Proof/Machine/Dispatch.lean ====
section
/-! DEFINITION. The dispatch: one arm per operation, each one call of its meaning. -/

namespace Sys2Proof.Machine

def exec (i : Instr) (s : State) : Host.Outcome State Fault Refusal :=
  match i with
  | .frameDecode b => Sys2Proof.Machine.execFrameDecode b s
  | .frameEncode F => Sys2Proof.Machine.execFrameEncode F s
  | .rxStatusCp1Primary b now => Sys2Proof.Machine.execRxStatusCp1Primary b now s
  | .rxStatusCp1Secondary b now => Sys2Proof.Machine.execRxStatusCp1Secondary b now s
  | .rxStatusCp0Pri b now => Sys2Proof.Machine.execRxStatusCp0Pri b now s
  | .rxStatusCp0Sec b now => Sys2Proof.Machine.execRxStatusCp0Sec b now s
  | .rxErrorPrimary b now => Sys2Proof.Machine.execRxErrorPrimary b now s
  | .rxErrorSecondary b now => Sys2Proof.Machine.execRxErrorSecondary b now s
  | .rxLoginPrimary b now => Sys2Proof.Machine.execRxLoginPrimary b now s
  | .rxLoginSecondary b now => Sys2Proof.Machine.execRxLoginSecondary b now s
  | .rxReservedPrimary b now => Sys2Proof.Machine.execRxReservedPrimary b now s
  | .rxReservedSecondary b now => Sys2Proof.Machine.execRxReservedSecondary b now s
  | .rxObserve b now => Sys2Proof.Machine.execRxObserve b now s
  | .rxOther b now => Sys2Proof.Machine.execRxOther b now s
  | .rxShort raw now => Sys2Proof.Machine.execRxShort raw now s
  | .rxUnconnected raw now => Sys2Proof.Machine.execRxUnconnected raw now s
  | .txStatusToUnitPrimary b => Sys2Proof.Machine.execTxStatusToUnitPrimary b s
  | .txStatusToUnitSecondary b => Sys2Proof.Machine.execTxStatusToUnitSecondary b s
  | .txStatusToSecondaryPrimary b => Sys2Proof.Machine.execTxStatusToSecondaryPrimary b s
  | .txLoginToUnitPrimary b => Sys2Proof.Machine.execTxLoginToUnitPrimary b s
  | .txStatusMagic2ToUnitSecondary b => Sys2Proof.Machine.execTxStatusMagic2ToUnitSecondary b s
  | .txLoginEchoToSecondaryPrimary b => Sys2Proof.Machine.execTxLoginEchoToSecondaryPrimary b s
  | .txLoginEchoToSecondarySecondary b => Sys2Proof.Machine.execTxLoginEchoToSecondarySecondary b s
  | .connect isSecondary => Sys2Proof.Machine.execConnect isSecondary s
  | .reset => Sys2Proof.Machine.execReset s
  | .rxFrame raw now => Sys2Proof.Machine.execRxFrame raw now s
  | .txPoll now => Sys2Proof.Machine.execTxPoll now s
  | .timeoutPoll now thresholdMs => Sys2Proof.Machine.execTimeoutPoll now thresholdMs s
  | .tick now thresholdMs => Sys2Proof.Machine.execTick now thresholdMs s
  | .setOnOff v => Sys2Proof.Machine.execSetOnOff v s
  | .setTemp v => Sys2Proof.Machine.execSetTemp v s
  | .setMode v => Sys2Proof.Machine.execSetMode v s
  | .setFanMode v => Sys2Proof.Machine.execSetFanMode v s
  | .setSwingMode v => Sys2Proof.Machine.execSetSwingMode v s
  | .setSwingStep v => Sys2Proof.Machine.execSetSwingStep v s
  | .setEconomyMode v => Sys2Proof.Machine.execSetEconomyMode v s
  | .getOnOff => Sys2Proof.Machine.execGetOnOff s
  | .getTemp => Sys2Proof.Machine.execGetTemp s
  | .getMode => Sys2Proof.Machine.execGetMode s
  | .getFanMode => Sys2Proof.Machine.execGetFanMode s
  | .getEconomyMode => Sys2Proof.Machine.execGetEconomyMode s
  | .getSwingMode => Sys2Proof.Machine.execGetSwingMode s
  | .getSwingStep => Sys2Proof.Machine.execGetSwingStep s
  | .getControllerTemp => Sys2Proof.Machine.execGetControllerTemp s
  | .isBound now => Sys2Proof.Machine.execIsBound now s
  | .updatePending => Sys2Proof.Machine.execUpdatePending s
  | .isTimedOut now thresholdMs => Sys2Proof.Machine.execIsTimedOut now thresholdMs s
  | .readyToTransmit now => Sys2Proof.Machine.execReadyToTransmit now s
  | .phase => Sys2Proof.Machine.execPhase s
  | .cmdDecode b => Sys2Proof.Machine.execCmdDecode b s
  | .cmdEncode F => Sys2Proof.Machine.execCmdEncode F s
  | .cmdInv b => Sys2Proof.Machine.execCmdInv b s
  | .unassigned00 => Sys2Proof.Machine.execUnassigned00 s
  | .unassigned07 => Sys2Proof.Machine.execUnassigned07 s
  | .unassigned0F => Sys2Proof.Machine.execUnassigned0F s
  | .onFrameReceived now => Sys2Proof.Machine.execOnFrameReceived now s
  | .applyAndClear R => Sys2Proof.Machine.execApplyAndClear R s
  | .stage f v => Sys2Proof.Machine.execStage f v s
  | .wireDecode w => Sys2Proof.Machine.execWireDecode w s
  | .wireEncode F => Sys2Proof.Machine.execWireEncode F s

end Sys2Proof.Machine
end

