-- ==== Sys2Proof/Machine/Step.lean ====
section
/-! DEFINITION. One step: take the next event and do its operation (20_memory.md R62). -/

namespace Sys2Proof.Machine

/-- One step of the machine. With no event presented nothing happens (assumption 4). -/
def step (s : State) : Host.Outcome State Fault Refusal :=
  match fetch s with
  | .idle => .next s
  | .declined r => .refused r
  | .run i s' => exec i s'

/-- The machine with the event of an opcode-table word put where the step takes its next event. A 64-bit word is a received
frame of the frame map, whose row depends on the mode: the mode the table's rows are written for is set with it (connected,
the row's role and address, the instance P0). Assumption 3. -/
def State.withFetchWord (s : State) (nbits w : Nat) : State :=
  match tablePacket nbits w with
  | none => s
  | some p =>
    if nbits = 64 then
      let m := tableMode (Frame.ofNat64 w)
      { s with
        params := m.params
        S := { s.S with
          connected := m.connected, controllerIsPrimary := m.isPrimary, controllerAddress := m.own }
        inbox := p :: s.inbox }
    else { s with inbox := p :: s.inbox }

end Sys2Proof.Machine
end

