-- ==== Sys2Proof/Safety.lean ====
section
/-! DEFINITION. What the statements about the machine speak of: the invariant of every reachable state (10_state.md R43),
the merge and the reply table in the spec's own fields, and the groupings of operations by shape. None of it is used by the
machine. -/

namespace Sys2Proof

open Sys2Proof.Machine

/-! ### Groupings of operations -/

/-- The field and operand of an operation that stages a value (41_pending_update.md R120, R121, R125 to R131). -/
def stagedBy : Instr → Option (StageField × Byte)
  | .stage f v => some (f, v)
  | .setOnOff v => some (.onOff, if v then 1 else 0)
  | .setTemp v => some (.temperature, v)
  | .setMode v => some (.acMode, v)
  | .setFanMode v => some (.fanMode, v)
  | .setSwingMode v => some (.swingMode, v)
  | .setSwingStep v => some (.swingStep, v)
  | .setEconomyMode v => some (.economyMode, v)
  | _ => none

/-- The field a getter returns (43_session_fsm.md R182 to R189). -/
def getterField : Instr → Option BodyField
  | .getOnOff => some .onOff
  | .getTemp => some .temperature
  | .getMode => some .acMode
  | .getFanMode => some .fanMode
  | .getEconomyMode => some .economyMode
  | .getSwingMode => some .swingMode
  | .getSwingStep => some .swingStep
  | .getControllerTemp => some .controllerTemp
  | _ => none

/-- The received wire bytes and the time of an operation that receives a group (the fourteen rows of the frame map and
`RX_FRAME` itself). -/
def groupOf : Instr → Option (List Byte × Nat)
  | .rxFrame raw now => some (raw, now)
  | .rxShort raw now => some (raw, now)
  | .rxUnconnected raw now => some (raw, now)
  | .rxStatusCp1Primary b now => some ((invFrame b).toList, now)
  | .rxStatusCp1Secondary b now => some ((invFrame b).toList, now)
  | .rxStatusCp0Pri b now => some ((invFrame b).toList, now)
  | .rxStatusCp0Sec b now => some ((invFrame b).toList, now)
  | .rxErrorPrimary b now => some ((invFrame b).toList, now)
  | .rxErrorSecondary b now => some ((invFrame b).toList, now)
  | .rxLoginPrimary b now => some ((invFrame b).toList, now)
  | .rxLoginSecondary b now => some ((invFrame b).toList, now)
  | .rxReservedPrimary b now => some ((invFrame b).toList, now)
  | .rxReservedSecondary b now => some ((invFrame b).toList, now)
  | .rxObserve b now => some ((invFrame b).toList, now)
  | .rxOther b now => some ((invFrame b).toList, now)
  | _ => none

/-- The time of a timed operation (70_reset_and_hazards.md R228 O2; `ON_FRAME_RECEIVED` is given one too). -/
def timeOf (i : Instr) : Option Nat :=
  match i with
  | .txPoll now => some now
  | .timeoutPoll now _ => some now
  | .tick now _ => some now
  | .isBound now => some now
  | .isTimedOut now _ => some now
  | .readyToTransmit now => some now
  | .onFrameReceived now => some now
  | i => (groupOf i).map fun p => p.2

/-- An operation the host or the transport can present: neither a reply shape nor an internal operation
(30_encoding.md R91). -/
def presentable (i : Instr) : Bool := (encode i).isSome

/-- An operation that builds a reply of a STATUS class: the five reply shapes that are persisted
(43_session_fsm.md R177). -/
def buildsStatusReply : Instr → Bool
  | .txStatusToUnitPrimary _ | .txStatusToUnitSecondary _ | .txStatusToSecondaryPrimary _
  | .txLoginToUnitPrimary _ | .txStatusMagic2ToUnitSecondary _ => true
  | _ => false

/-- The reply to a LOGIN frame, in either role (43_session_fsm.md R177). -/
def buildsLoginEcho : Instr → Bool
  | .txLoginEchoToSecondaryPrimary _ | .txLoginEchoToSecondarySecondary _ => true
  | _ => false

/-! ### The reply table -/

/-- The column of 43_session_fsm.md R177 for RX_STATUS_CP1 with no secondary seen: "A", "in" and constants. -/
def columnToUnit (P : Params) (S : Session) (F : ControlFrame) : ControlFrame :=
  { F with
    messageSource := S.controllerAddress.setWidth 8, messageDest := P.addrUnit
    messageType := P.mtStatus, loginBit := 0, unknownBit := 1, writeBit := 0
    controllerPresent := 1, updateMagic := 0 }

/-- The column for RX_STATUS_CP1 with a secondary seen. -/
def columnToSecondary (P : Params) (S : Session) (F : ControlFrame) : ControlFrame :=
  { F with
    messageSource := S.controllerAddress.setWidth 8, messageDest := P.addrSecondary
    messageType := P.mtStatus, loginBit := 1, unknownBit := 1, writeBit := 0
    controllerPresent := 0, updateMagic := 0 }

/-- The column for RX_STATUS_CP0_PRI. -/
def columnLogin (P : Params) (S : Session) (F : ControlFrame) : ControlFrame :=
  { F with
    messageSource := S.controllerAddress.setWidth 8, messageDest := P.addrUnit
    messageType := P.mtLogin, loginBit := 0, unknownBit := 1, writeBit := 0
    controllerPresent := 0, updateMagic := 0, onOff := 0, temperature := 0, acMode := 0
    fanMode := 0, swingMode := 0, swingStep := 0, acError := 0 }

/-- The column for RX_STATUS_CP0_SEC. -/
def columnMagic2 (P : Params) (S : Session) (F : ControlFrame) : ControlFrame :=
  { F with
    messageSource := S.controllerAddress.setWidth 8, messageDest := P.addrUnit
    messageType := P.mtStatus, loginBit := 0, unknownBit := 1, writeBit := 0
    controllerPresent := 1, updateMagic := 2 }

/-- The column for RX_LOGIN: the operating fields are "cur". -/
def columnLoginEcho (P : Params) (S : Session) (F : ControlFrame) : ControlFrame :=
  { F with
    messageSource := S.controllerAddress.setWidth 8, messageDest := P.addrSecondary
    loginBit := 1, unknownBit := 1, writeBit := 0, controllerPresent := 1, updateMagic := 0
    onOff := S.currentState.onOff, temperature := S.currentState.temperature
    acMode := S.currentState.acMode, fanMode := S.currentState.fanMode
    swingMode := S.currentState.swingMode, swingStep := S.currentState.swingStep
    acError := S.currentState.acError }

/-- The base reply of each reply shape: its column of 43_session_fsm.md R177 on the record of the base frame. -/
def replyTable (P : Params) (S : Session) : Instr → Option ControlFrame
  | .txStatusToUnitPrimary b => some (columnToUnit P S (decodeFrame P.layout b))
  | .txStatusToUnitSecondary b => some (columnToUnit P S (decodeFrame P.layout b))
  | .txStatusToSecondaryPrimary b => some (columnToSecondary P S (decodeFrame P.layout b))
  | .txLoginToUnitPrimary b => some (columnLogin P S (decodeFrame P.layout b))
  | .txStatusMagic2ToUnitSecondary b => some (columnMagic2 P S (decodeFrame P.layout b))
  | .txLoginEchoToSecondaryPrimary b => some (columnLoginEcho P S (decodeFrame P.layout b))
  | .txLoginEchoToSecondarySecondary b => some (columnLoginEcho P S (decodeFrame P.layout b))
  | _ => none

/-- The base reply to an addressed STATUS frame `F`, by its class: the three STATUS classes of 43_session_fsm.md R171
(RX_STATUS_CP1 with its two columns, RX_STATUS_CP0_PRI, RX_STATUS_CP0_SEC). -/
def statusReply (P : Params) (S : Session) (F : ControlFrame) : ControlFrame :=
  if F.controllerPresent = 1 then
    if S.seenSecondaryController then columnToSecondary P S F else columnToUnit P S F
  else if S.controllerIsPrimary then columnLogin P S F
  else columnMagic2 P S F

/-- `M` is the base reply `R` with the staged values of `S` merged into it (43_session_fsm.md R171, 41_pending_update.md
R124): `writeBit` 1 when anything is staged, each dirty field the staged value, every other field as in `R`. -/
def MergedReply (S : Session) (R M : ControlFrame) : Prop :=
  M.messageSource = R.messageSource ∧ M.messageDest = R.messageDest ∧
  M.messageType = R.messageType ∧ M.loginBit = R.loginBit ∧ M.unknownBit = R.unknownBit ∧
  M.writeBit = (if S.updateFields = 0 then R.writeBit else 1) ∧
  (∀ f : StageField, M.body f.toBody =
    if isDirty S.updateFields f then S.updateState.body f.toBody else R.body f.toBody) ∧
  (∀ g : BodyField, (∀ f : StageField, f.toBody ≠ g) → M.body g = R.body g)

/-! ### Sequences of operations -/

/-- The machine after a list of operations done in turn, each of which must answer a next state. -/
def runAll : List Instr → State → Option State
  | [], s => some s
  | i :: l, s =>
    match exec i s with
    | .next t => runAll l t
    | .fault _ => none
    | .refused _ => none

/-! ### The invariant -/

/-- The queued reply (10_state.md R43 (d)): the bytes waiting are the wire form of a record the block sends, with its own
address as source, `unknownBit` 1 and one of the two destinations (20_memory.md R51, R52; 30_encoding.md R84). -/
abbrev QueuedReply (s : State) : Prop :=
  let R := wireDecodeFrame s.params.layout s.S.txBuf
  s.S.txBuf = wireEncodeFrame s.params.layout R ∧ R.fits s.params.layout = true ∧
  R.messageSource = s.S.controllerAddress.setWidth 8 ∧ R.unknownBit = 1 ∧
  (R.messageDest = s.params.addrUnit ∨ R.messageDest = s.params.addrSecondary)

/-- The invariant of every reachable state (10_state.md R43 (a) to (e)), with a well-formed instance (R228 O5) and the
premise of 00_scope.md R14 that a recorded time is not later than the last time seen. -/
abbrev Inv (s : State) : Prop :=
  s.params.wf = true ∧
  s.S.controllerAddress = (if s.S.controllerIsPrimary then s.params.addrPrimary
    else s.params.addrSecondary) ∧
  (s.S.controllerIsPrimary = false → s.S.seenSecondaryController = false) ∧
  (s.S.connected = false → s.S.pendingFrame = false ∧ s.S.controllerLoggedIn = false ∧
    s.S.seenSecondaryController = false ∧ s.S.lastFrameReceived = 0) ∧
  (s.S.pendingFrame = true → QueuedReply s) ∧
  s.S.currentState.fits s.params.layout = true ∧ s.S.updateState.fits s.params.layout = true ∧
  s.S.lastFrameReceived ≤ s.clock

end Sys2Proof
end

