-- ==== Sys2Proof/Certificates/Slice0/Obligations.lean ====
section
/-! DEFINITION. The statements for the provers, from the spec's numbered rules. `clock`, `draws`, `inbox`, `outbox` and
`params` are the model's own fields (assumptions 1, 3, 5, 6, 10); "s.clock ≤ now" is obligation O2 of
70_reset_and_hazards.md R228. A statement that gives the next state as an equation gives its frame with it: every element
the record update does not name is unchanged. -/

open Sys2Proof Sys2Proof.Machine

/-! ### Codec -/

/-- 40_codec.md R102: `DECODE` (command 0x1D, and the format row FRAME.decode) completes in every state and changes nothing
of `S`; its result has each field at its place. -/
def Obligations.DecodeAnswersEveryField : Prop :=
  ∀ (s : State) (b : Frame), ∃ F : ControlFrame,
    exec (.cmdDecode b) s = .next { s with outbox := s.outbox ++ [.record F] } ∧
    exec (.frameDecode b) s = .next { s with outbox := s.outbox ++ [.record F] } ∧
    F.messageSource = b.b0 ∧ F.messageDest = b.b1.extractLsb' 0 7 ∧
    F.loginBit = b.b1.extractLsb' 5 1 ∧ F.unknownBit = b.b1.extractLsb' 7 1 ∧
    F.messageType = b.b2.extractLsb' 4 2 ∧ F.writeBit = b.b2.extractLsb' 3 1 ∧
    ∀ f : BodyField, F.body f =
      (b.get (s.params.layout.place f).idx &&& (s.params.layout.place f).mask)
        >>> (s.params.layout.place f).off

/-- 40_codec.md R103, closed form: `ENCODE` (command 0x1E, and the format row FRAME.encode) completes in every state and
changes nothing of `S`. That `loginBit` wins bit 5 of byte 1 is the spec's decision D6. -/
def Obligations.EncodeAnswersTheClosedForm : Prop :=
  ∀ (s : State) (F : ControlFrame), s.params.layout.wf = true → ∃ b : Frame,
    exec (.cmdEncode F) s = .next { s with outbox := s.outbox ++ [.bytes b] } ∧
    exec (.frameEncode F) s = .next { s with outbox := s.outbox ++ [.bytes b] } ∧
    b.b0 = F.messageSource ∧
    b.b1 = (F.unknownBit.setWidth 8 <<< 7) ||| (F.messageDest.setWidth 8 &&& 0x5F)
      ||| (F.loginBit.setWidth 8 <<< 5) ∧
    b.b2 = (F.messageType.setWidth 8 <<< 4) ||| (F.writeBit.setWidth 8 <<< 3) ∧
    ∀ i : Fin 8, 3 ≤ i.val → b.get i = BodyField.all.foldl (fun acc f =>
      if (s.params.layout.place f).idx = i then
        acc ||| ((F.body f <<< (s.params.layout.place f).off) &&& (s.params.layout.place f).mask)
      else acc) 0

/-- 40_codec.md R100: `INV` completes in every state, changes nothing of `S`, complements every byte, and undoes itself. -/
def Obligations.InvComplementsEveryByte : Prop :=
  ∀ (s : State) (b : Frame), ∃ b' : Frame,
    exec (.cmdInv b) s = .next { s with outbox := s.outbox ++ [.bytes b'] } ∧
    (∀ i : Fin 8, b'.get i = b.get i ^^^ 0xFF) ∧
    exec (.cmdInv b') s = .next { s with outbox := s.outbox ++ [.bytes b] }

/-- 40_codec.md R104, R105: the wire operations complete in every state and are the logical ones with every byte
complemented, once. -/
def Obligations.WireOperationsInvertOnce : Prop :=
  (∀ (s : State) (w b : Frame), (∀ i : Fin 8, b.get i = w.get i ^^^ 0xFF) → ∃ F : ControlFrame,
    exec (.wireDecode w) s = .next { s with outbox := s.outbox ++ [.record F] } ∧
    exec (.cmdDecode b) s = .next { s with outbox := s.outbox ++ [.record F] }) ∧
  (∀ (s : State) (F : ControlFrame), ∃ w b : Frame,
    exec (.wireEncode F) s = .next { s with outbox := s.outbox ++ [.bytes w] } ∧
    exec (.cmdEncode F) s = .next { s with outbox := s.outbox ++ [.bytes b] } ∧
    ∀ i : Fin 8, w.get i = b.get i ^^^ 0xFF)

/-- 40_codec.md, "Laws of the codec", round trip on the frame side, for every legal layout: a canonical record whose fields
fit comes back field for field; any record whose fields fit comes back with bit 5 of `messageDest` replaced by `loginBit`
(the latter rests on the spec's decision D6). -/
def Obligations.RecordRoundTrip : Prop :=
  ∀ (L : Layout) (F : ControlFrame), L.wf = true → F.fits L = true →
    (F.canonical = true → decodeFrame L (encodeFrame L F) = F) ∧
    decodeFrame L (encodeFrame L F) =
      { F with messageDest := (F.messageDest &&& 0x5F) ||| (F.loginBit.setWidth 7 <<< 5) }

/-- 40_codec.md, "Laws of the codec", round trip on the byte side, for every legal layout: exactly the bits some field covers
survive; and what `FIELDMASK` is: the header's masks, and in bytes 3 to 7 the bits some body field covers. -/
def Obligations.ByteRoundTrip : Prop :=
  (∀ (L : Layout) (b : Frame) (i : Fin 8), L.wf = true →
    (encodeFrame L (decodeFrame L b)).get i = b.get i &&& fieldMask L i) ∧
  (∀ L : Layout, fieldMask L 0 = 0xFF ∧ fieldMask L 1 = 0xFF ∧ fieldMask L 2 = 0x38) ∧
  (∀ (L : Layout) (i : Fin 8) (k : Nat), 3 ≤ i.val →
    ((fieldMask L i).getLsbD k = true ↔
      ∃ f : BodyField, (L.place f).idx = i ∧ (L.place f).mask.getLsbD k = true))

/-- 40_codec.md, "Laws of the codec", wire laws, for every legal layout. -/
def Obligations.WireRoundTrip : Prop :=
  ∀ (L : Layout) (w : Frame) (F : ControlFrame), L.wf = true → F.fits L = true → F.canonical = true →
    wireDecodeFrame L (wireEncodeFrame L F) = F ∧
    ∀ i : Fin 8, (wireEncodeFrame L (wireDecodeFrame L w)).get i
      = inv8 (inv8 (w.get i) &&& fieldMask L i)

/-- 40_codec.md, "Laws of the codec": `ENCODE` on canonical records whose fields fit is injective, and `DECODE` never is
(bits 7, 6, 2, 1, 0 of byte 2, the mask 0xC7, belong to no field of any layout: no change of any of them changes the record). -/
def Obligations.EncodeInjectiveDecodeNot : Prop :=
  ∀ L : Layout, L.wf = true →
    (∀ F G : ControlFrame, F.fits L = true → G.fits L = true → F.canonical = true →
      G.canonical = true → encodeFrame L F = encodeFrame L G → F = G) ∧
    ∀ (b : Frame) (m : Byte), decodeFrame L { b with b2 := b.b2 ^^^ (m &&& 0xC7) } = decodeFrame L b

/-! ### Pending updates -/

/-- 41_pending_update.md, STAGE and the seven setters: the operation completes in every state, writes the one field and sets
its flag; nothing else of the machine changes. The truncation to the field's width is the spec's decision D7. Operations:
stage, setOnOff, setTemp, setMode, setFanMode, setSwingMode, setSwingStep, setEconomyMode. -/
def Obligations.StagingWritesOneFieldAndItsFlag : Prop :=
  ∀ (s : State) (i : Instr) (f : StageField) (v : Byte), stagedBy i = some (f, v) →
    ∃ (U : ControlFrame) (D : BitVec 7),
      exec i s = .next { s with S := { s.S with updateState := U, updateFields := D } } ∧
      (U.body f.toBody).toNat = v.toNat % 2 ^ s.params.layout.width f.toBody ∧
      (∀ g : BodyField, g ≠ f.toBody → U.body g = s.S.updateState.body g) ∧
      U.messageSource = s.S.updateState.messageSource ∧ U.messageDest = s.S.updateState.messageDest ∧
      U.messageType = s.S.updateState.messageType ∧ U.writeBit = s.S.updateState.writeBit ∧
      U.loginBit = s.S.updateState.loginBit ∧ U.unknownBit = s.S.updateState.unknownBit ∧
      ∀ g : StageField, isDirty D g = (isDirty s.S.updateFields g || decide (g = f))

/-- 41_pending_update.md, write coalescing, over every sequence of stagings: a field's flag is set exactly if it was or if the
sequence stages it, and its value is the operand of the LAST staging of it (truncated, D7). -/
def Obligations.LastStagingWins : Prop :=
  ∀ (S : Session) (L : Layout) (l : List (StageField × Byte)) (f : StageField),
    let T := l.foldl (fun S p => S.stage L p.1 p.2) S
    isDirty T.updateFields f = (isDirty S.updateFields f || l.any (fun p => p.1 == f)) ∧
    T.updateState.body f.toBody =
      match l.reverse.find? (fun p => p.1 == f) with
      | some p => truncTo (L.width f.toBody) p.2
      | none => S.updateState.body f.toBody

/-- 41_pending_update.md R123: the result is 1 exactly if some dirty flag is 1; nothing of `S` changes. -/
def Obligations.UpdatePendingAnswersAnyFlag : Prop :=
  ∀ s : State, ∃ v : Bool,
    exec .updatePending s = .next { s with outbox := s.outbox ++ [.bit v] } ∧
    (v = true ↔ ∃ f : StageField, isDirty s.S.updateFields f = true)

/-- 41_pending_update.md R124: every dirty field is overwritten, the others are kept, all seven flags are cleared, and nothing
else of `S` changes. -/
def Obligations.ApplyAndClearMergesDirtyFields : Prop :=
  ∀ (s : State) (R : ControlFrame), ∃ R' : ControlFrame,
    exec (.applyAndClear R) s =
      .next { s with S := { s.S with updateFields := 0 }, outbox := s.outbox ++ [.record R'] } ∧
    (∀ f : StageField, R'.body f.toBody =
      if isDirty s.S.updateFields f then s.S.updateState.body f.toBody else R.body f.toBody) ∧
    (∀ g : BodyField, (∀ f : StageField, f.toBody ≠ g) → R'.body g = R.body g) ∧
    R'.messageSource = R.messageSource ∧ R'.messageDest = R.messageDest ∧
    R'.messageType = R.messageType ∧ R'.writeBit = R.writeBit ∧ R'.loginBit = R.loginBit ∧
    R'.unknownBit = R.unknownBit

/-! ### Timer -/

/-- 42_transport_timer.md R140. -/
def Obligations.OnFrameReceivedRecordsTheTime : Prop :=
  ∀ (s : State) (now : Nat), s.clock ≤ now →
    exec (.onFrameReceived now) s =
      .next { s with clock := now, S := { s.S with lastFrameReceived := now } }

/-- 42_transport_timer.md R141. -/
def Obligations.ReadyNeedsAQueuedReplyAndTheGuard : Prop :=
  ∀ (s : State) (now : Nat), s.clock ≤ now → ∃ v : Bool,
    exec (.readyToTransmit now) s = .next { s with clock := now, outbox := s.outbox ++ [.bit v] } ∧
    (v = true ↔ s.S.pendingFrame = true ∧ s.params.guardMs ≤ now - s.S.lastFrameReceived)

/-- 42_transport_timer.md, IS_BOUND, outside the unspecified corner. The boundary (strictly less) is the spec's decision D18,
the corner D19. -/
def Obligations.IsBoundOutsideTheCorner : Prop :=
  ∀ (s : State) (now : Nat), s.clock ≤ now →
    ¬ (s.S.lastFrameReceived = 0 ∧ now < s.params.boundMs) → ∃ v : Bool,
    exec (.isBound now) s = .next { s with clock := now, outbox := s.outbox ++ [.bit v] } ∧
    (v = true ↔ now - s.S.lastFrameReceived < s.params.boundMs)

/-- 42_transport_timer.md, IS_BOUND, in the unspecified corner (D19, U2): it completes with some bit, and nothing of `S`
changes; only the model's count of drawn bits advances (assumption 10). -/
def Obligations.IsBoundInTheCorner : Prop :=
  ∀ (s : State) (now : Nat), s.clock ≤ now →
    s.S.lastFrameReceived = 0 ∧ now < s.params.boundMs → ∃ v : Bool,
    exec (.isBound now) s = .next
      { s with clock := now, draws := s.draws + 1, outbox := s.outbox ++ [.bit v] }

/-- 42_transport_timer.md, IS_TIMED_OUT. The boundary (greater or equal) is the spec's decision D18. -/
def Obligations.IsTimedOutComparesElapsed : Prop :=
  ∀ (s : State) (now thresholdMs : Nat), s.clock ≤ now → ∃ v : Bool,
    exec (.isTimedOut now thresholdMs) s =
      .next { s with clock := now, outbox := s.outbox ++ [.bit v] } ∧
    (v = true ↔ thresholdMs ≤ now - s.S.lastFrameReceived)

/-- 42_transport_timer.md, TIMEOUT_POLL, and 60_exceptions.md, the session reset as the trap's entry: when timed out
exactly three elements are zeroed, nothing is saved and nothing emitted; otherwise nothing happens. The boundary is the
spec's decision D18. That everything else is kept (a queued reply, the role, what is staged) is the spec's decision D16
(assumption 19). -/
def Obligations.TimeoutPollResetsExactlyThreeElements : Prop :=
  ∀ (s : State) (now thresholdMs : Nat), s.clock ≤ now →
    exec (.timeoutPoll now thresholdMs) s = .next (
      if thresholdMs ≤ now - s.S.lastFrameReceived then
        { s with
          clock := now
          S := { s.S with
            controllerLoggedIn := false, seenSecondaryController := false, lastFrameReceived := 0 } }
      else { s with clock := now })

/-- 42_transport_timer.md R145. -/
def Obligations.TxPollSendsOnceWhenReady : Prop :=
  ∀ (s : State) (now : Nat), s.clock ≤ now →
    exec (.txPoll now) s = .next (
      if s.S.pendingFrame = true ∧ s.params.guardMs ≤ now - s.S.lastFrameReceived then
        { s with
          clock := now
          S := { s.S with pendingFrame := false }
          outbox := s.outbox ++ [.tx s.S.txBuf] }
      else { s with clock := now })

/-- 42_transport_timer.md, TICK: `TX_POLL`, then `TIMEOUT_POLL`, at the same time (the order is the spec's decision D20); each of
the three completes. What the session reset in it keeps is the spec's decision D16 (assumption 19). -/
def Obligations.TickSendsThenChecksTheTimeout : Prop :=
  ∀ (s : State) (now thresholdMs : Nat), s.clock ≤ now → ∃ t u : State,
    exec (.txPoll now) s = .next t ∧ exec (.timeoutPoll now thresholdMs) t = .next u ∧
    exec (.tick now thresholdMs) s = .next u ∧
    u.S.txBuf = s.S.txBuf ∧ u.S.currentState = s.S.currentState ∧
    u.S.updateState = s.S.updateState ∧ u.S.updateFields = s.S.updateFields ∧
    u.S.connected = s.S.connected ∧ u.S.controllerIsPrimary = s.S.controllerIsPrimary ∧
    u.S.controllerAddress = s.S.controllerAddress

/-- 42_transport_timer.md, guard law, for every operation in every state: what it emits is appended; at most one transmission is
among it; and a transmission sends the queued bytes, with a reply queued before and none after, no sooner than the guard
interval after the last addressed frame. -/
def Obligations.EveryTransmissionKeepsTheGuard : Prop :=
  ∀ (s t : State) (i : Instr), exec i s = .next t → ∃ os : List Output,
    t.outbox = s.outbox ++ os ∧ os.length ≤ 1 ∧
    ∀ w : Frame, Output.tx w ∈ os →
      w = s.S.txBuf ∧ s.S.pendingFrame = true ∧ t.S.pendingFrame = false ∧
      timeOf i = some t.clock ∧ s.params.guardMs ≤ t.clock - s.S.lastFrameReceived

/-! ### Receiving -/

/-- The frame map (30_encoding.md, frame classes): in a well-formed instance each of the ten classes has exactly its condition,
so that the classes are disjoint and complete. -/
def Obligations.FrameClassesHaveTheirConditions : Prop :=
  ∀ (m : Mode) (raw : List Byte), m.params.wf = true →
    let F := wireDecodeFrame m.params.layout (Frame.ofList raw)
    let own := m.connected = true ∧ 8 ≤ raw.length ∧ F.messageDest = m.own
    let status := own ∧ F.messageType = m.params.mtStatus
    (classify m raw = .unconnected ↔ m.connected = false) ∧
    (classify m raw = .short ↔ m.connected = true ∧ raw.length < 8) ∧
    (classify m raw = .statusCp1 ↔ status ∧ F.controllerPresent = 1) ∧
    (classify m raw = .statusCp0Pri ↔ status ∧ F.controllerPresent = 0 ∧ m.isPrimary = true) ∧
    (classify m raw = .statusCp0Sec ↔ status ∧ F.controllerPresent = 0 ∧ m.isPrimary = false) ∧
    (classify m raw = .login ↔ own ∧ F.messageType = m.params.mtLogin) ∧
    (classify m raw = .error ↔ own ∧ F.messageType = m.params.mtError) ∧
    (classify m raw = .reserved ↔ own ∧ F.messageType = m.params.mtReserved) ∧
    (classify m raw = .observe ↔ m.connected = true ∧ 8 ≤ raw.length ∧
      F.messageDest = m.params.addrSecondary ∧ m.own ≠ m.params.addrSecondary) ∧
    (classify m raw = .other ↔ m.connected = true ∧ 8 ≤ raw.length ∧
      F.messageDest ≠ m.own ∧ F.messageDest ≠ m.params.addrSecondary)

/-- 43_session_fsm.md, RX_FRAME, and the frame map: every row of the map, presented with any group of at most 8 bytes in any
state, completes, and does exactly what RX_FRAME does with that group. (That a frame presented outside its row's condition
gets its own class's reaction is the model's reading, assumption 21.) -/
def Obligations.EveryReceiveRowIsRxFrame : Prop :=
  ∀ (s : State) (i : Instr) (raw : List Byte) (now : Nat), groupOf i = some (raw, now) →
    raw.length ≤ 8 → s.clock ≤ now → ∃ t : State,
    exec i s = .next t ∧ exec (.rxFrame raw now) s = .next t

/-- Reading the same group from the receiver or as the command RX_FRAME makes the same step, in every state with a
well-formed instance (30_encoding.md, frame map and command table; the two presentations are the model's, assumption 3). -/
def Obligations.GroupAndCommandMakeTheSameStep : Prop :=
  ∀ (s : State) (raw : List Byte) (now : Nat) (rest : List Packet), s.params.wf = true →
    raw.length ≤ 8 →
    step { s with inbox := .group raw now :: rest } =
      step { s with inbox := .command 0x03 (groupBytes raw) [now] :: rest }

/-- 43_session_fsm.md, RX_STATUS_CP1 in either role: the time, the login mark (the spec's decision D12), the reply to the
unit or to a seen secondary, merged, persisted and queued. The kept body fields are the spec's decision D9 (assumption
14); a reply already queued is replaced, D24 (assumption 24). Operations: rxStatusCp1Primary, rxStatusCp1Secondary,
rxFrame. -/
def Obligations.StatusWithControllerPresent : Prop :=
  ∀ (s : State) (b : Frame) (now : Nat) (i : Instr),
    (i = .rxStatusCp1Primary b now ∧ s.S.controllerIsPrimary = true ∨
      i = .rxStatusCp1Secondary b now ∧ s.S.controllerIsPrimary = false ∨
      i = .rxFrame (invFrame b).toList now) →
    let F := decodeFrame s.params.layout b
    s.clock ≤ now → s.S.connected = true → F.messageDest = s.S.controllerAddress →
    F.messageType = s.params.mtStatus → F.controllerPresent = 1 →
    let R : ControlFrame :=
      if s.S.seenSecondaryController then
        { F with
          messageSource := s.S.controllerAddress.setWidth 8, messageType := s.params.mtStatus
          updateMagic := 0, unknownBit := 1, writeBit := 0
          messageDest := s.params.addrSecondary, loginBit := 1, controllerPresent := 0 }
      else
        { F with
          messageSource := s.S.controllerAddress.setWidth 8, messageType := s.params.mtStatus
          updateMagic := 0, unknownBit := 1, writeBit := 0
          messageDest := s.params.addrUnit, loginBit := 0, controllerPresent := 1 }
    ∃ M : ControlFrame, MergedReply s.S R M ∧
      exec i s = .next { s with
        clock := now
        S := { s.S with
          lastFrameReceived := now, controllerLoggedIn := true, currentState := M
          updateFields := 0, txBuf := wireEncodeFrame s.params.layout M, pendingFrame := true } }

/-- 43_session_fsm.md, RX_STATUS_CP0_PRI: a LOGIN frame to the unit with the seven operating fields zero, then merged, persisted
and queued; the login mark is untouched. The kept body fields are the spec's decision D9, the constants
`updateMagic`, `unknownBit` and `writeBit` D10, the list of zeroed fields D11 (assumption 14); a queued reply is replaced, D24.
Operations: rxStatusCp0Pri, rxFrame. -/
def Obligations.StatusWithoutControllerPresentPrimary : Prop :=
  ∀ (s : State) (b : Frame) (now : Nat) (i : Instr),
    (i = .rxStatusCp0Pri b now ∨ i = .rxFrame (invFrame b).toList now) →
    let F := decodeFrame s.params.layout b
    s.clock ≤ now → s.S.connected = true → s.S.controllerIsPrimary = true →
    F.messageDest = s.S.controllerAddress → F.messageType = s.params.mtStatus →
    F.controllerPresent = 0 →
    let R : ControlFrame := { F with
      messageSource := s.S.controllerAddress.setWidth 8, messageDest := s.params.addrUnit
      messageType := s.params.mtLogin, loginBit := 0, controllerPresent := 0, updateMagic := 0
      unknownBit := 1, writeBit := 0, onOff := 0, temperature := 0, acMode := 0, fanMode := 0
      swingMode := 0, swingStep := 0, acError := 0 }
    ∃ M : ControlFrame, MergedReply s.S R M ∧
      exec i s = .next { s with
        clock := now
        S := { s.S with
          lastFrameReceived := now, currentState := M, updateFields := 0
          txBuf := wireEncodeFrame s.params.layout M, pendingFrame := true } }

/-- 43_session_fsm.md, RX_STATUS_CP0_SEC: a STATUS frame to the unit with `updateMagic` 2, then merged, persisted and queued; the
login mark is untouched. The kept body fields are the spec's decision D9, the common constants D10 (assumption 14); a queued
reply is replaced, D24. Operations:
rxStatusCp0Sec, rxFrame. -/
def Obligations.StatusWithoutControllerPresentSecondary : Prop :=
  ∀ (s : State) (b : Frame) (now : Nat) (i : Instr),
    (i = .rxStatusCp0Sec b now ∨ i = .rxFrame (invFrame b).toList now) →
    let F := decodeFrame s.params.layout b
    s.clock ≤ now → s.S.connected = true → s.S.controllerIsPrimary = false →
    F.messageDest = s.S.controllerAddress → F.messageType = s.params.mtStatus →
    F.controllerPresent = 0 →
    let R : ControlFrame := { F with
      messageSource := s.S.controllerAddress.setWidth 8, messageDest := s.params.addrUnit
      messageType := s.params.mtStatus, loginBit := 0, controllerPresent := 1, updateMagic := 2
      unknownBit := 1, writeBit := 0 }
    ∃ M : ControlFrame, MergedReply s.S R M ∧
      exec i s = .next { s with
        clock := now
        S := { s.S with
          lastFrameReceived := now, currentState := M, updateFields := 0
          txBuf := wireEncodeFrame s.params.layout M, pendingFrame := true } }

/-- 43_session_fsm.md, RX_LOGIN in either role: the operating fields of `currentState` are echoed to the secondary; nothing is
merged or persisted. That the branch does not test the role and keeps the inbound type is the spec's decision D14 (assumption
23); the constants `updateMagic` 0, `unknownBit` 1 and `writeBit` 0 are D10 and the other fields kept from the inbound frame D9
(assumption 14); a reply already queued is replaced, D24 (assumption 24).
Operations: rxLoginPrimary, rxLoginSecondary, rxFrame. -/
def Obligations.LoginIsEchoedWithoutMerge : Prop :=
  ∀ (s : State) (b : Frame) (now : Nat) (i : Instr),
    (i = .rxLoginPrimary b now ∧ s.S.controllerIsPrimary = true ∨
      i = .rxLoginSecondary b now ∧ s.S.controllerIsPrimary = false ∨
      i = .rxFrame (invFrame b).toList now) →
    let F := decodeFrame s.params.layout b
    let C := s.S.currentState
    s.params.wf = true → s.clock ≤ now → s.S.connected = true →
    F.messageDest = s.S.controllerAddress → F.messageType = s.params.mtLogin →
    let R : ControlFrame := { F with
      messageSource := s.S.controllerAddress.setWidth 8, messageDest := s.params.addrSecondary
      loginBit := 1, controllerPresent := 1, updateMagic := 0, unknownBit := 1, writeBit := 0
      onOff := C.onOff, temperature := C.temperature, acMode := C.acMode, fanMode := C.fanMode
      swingMode := C.swingMode, swingStep := C.swingStep, acError := C.acError }
    exec i s = .next { s with
      clock := now
      S := { s.S with
        lastFrameReceived := now, txBuf := wireEncodeFrame s.params.layout R
        pendingFrame := true } }

/-- 43_session_fsm.md, RX_ERROR in either role: the decoded frame is logged, the time recorded, nothing else changes. What the log
holds is the spec's decision D28. Operations: rxErrorPrimary, rxErrorSecondary, rxFrame. -/
def Obligations.ErrorIsLoggedAndDropped : Prop :=
  ∀ (s : State) (b : Frame) (now : Nat) (i : Instr),
    (i = .rxErrorPrimary b now ∧ s.S.controllerIsPrimary = true ∨
      i = .rxErrorSecondary b now ∧ s.S.controllerIsPrimary = false ∨
      i = .rxFrame (invFrame b).toList now) →
    let F := decodeFrame s.params.layout b
    s.params.wf = true → s.clock ≤ now → s.S.connected = true →
    F.messageDest = s.S.controllerAddress → F.messageType = s.params.mtError →
    exec i s = .next { s with
      clock := now
      S := { s.S with lastFrameReceived := now }
      outbox := s.outbox ++ [.log F] }

/-- 43_session_fsm.md, RX_RESERVED in either role: only the time is recorded, without reply or log (the spec's decision D13).
Operations: rxReservedPrimary, rxReservedSecondary, rxFrame. -/
def Obligations.ReservedTypeOnlyRecordsTheTime : Prop :=
  ∀ (s : State) (b : Frame) (now : Nat) (i : Instr),
    (i = .rxReservedPrimary b now ∧ s.S.controllerIsPrimary = true ∨
      i = .rxReservedSecondary b now ∧ s.S.controllerIsPrimary = false ∨
      i = .rxFrame (invFrame b).toList now) →
    let F := decodeFrame s.params.layout b
    s.params.wf = true → s.clock ≤ now → s.S.connected = true →
    F.messageDest = s.S.controllerAddress → F.messageType = s.params.mtReserved →
    exec i s = .next { s with clock := now, S := { s.S with lastFrameReceived := now } }

/-- 43_session_fsm.md R162: the secondary is marked seen and its reading adopted; nothing else changes and nothing is emitted.
Operations: rxObserve, rxFrame. -/
def Obligations.ObservedFrameMarksTheSecondary : Prop :=
  ∀ (s : State) (b : Frame) (now : Nat) (i : Instr),
    (i = .rxObserve b now ∨ i = .rxFrame (invFrame b).toList now) →
    let F := decodeFrame s.params.layout b
    s.clock ≤ now → s.S.connected = true → F.messageDest = s.params.addrSecondary →
    s.S.controllerAddress ≠ s.params.addrSecondary →
    exec i s = .next { s with
      clock := now
      S := { s.S with
        seenSecondaryController := true
        currentState := { s.S.currentState with controllerTemp := F.controllerTemp } } }

/-- 43_session_fsm.md R163: a frame to any other destination changes nothing and emits nothing. Operations: rxOther, rxFrame. -/
def Obligations.OtherDestinationIsIgnored : Prop :=
  ∀ (s : State) (b : Frame) (now : Nat) (i : Instr),
    (i = .rxOther b now ∨ i = .rxFrame (invFrame b).toList now) →
    let F := decodeFrame s.params.layout b
    s.clock ≤ now → s.S.connected = true → F.messageDest ≠ s.S.controllerAddress →
    F.messageDest ≠ s.params.addrSecondary →
    exec i s = .next { s with clock := now }

/-- 20_memory.md R57 and 60_exceptions.md R201: a group of fewer than 8 bytes changes nothing and emits nothing, connected or not.
Operations: rxShort, rxFrame. -/
def Obligations.ShortGroupIsDropped : Prop :=
  ∀ (s : State) (raw : List Byte) (now : Nat) (i : Instr),
    (i = .rxShort raw now ∨ i = .rxFrame raw now) →
    s.clock ≤ now → raw.length < 8 →
    exec i s = .next { s with clock := now }

/-- 43_session_fsm.md, RX_FRAME, before the first CONNECT (the spec's decision D26): every group is dropped, whatever it holds.
Operations: rxUnconnected, rxFrame. -/
def Obligations.UnconnectedGroupIsDropped : Prop :=
  ∀ (s : State) (raw : List Byte) (now : Nat) (i : Instr),
    (i = .rxUnconnected raw now ∨ i = .rxFrame raw now) →
    s.clock ≤ now → s.S.connected = false → raw.length ≤ 8 →
    exec i s = .next { s with clock := now }

/-- 43_session_fsm.md, "Frames not addressed to us never produce a reply": in every state, a full frame whose destination
is not the own address leaves the queue, the time, the login mark, the staged values and the other sixteen fields of
`currentState` alone, and emits nothing. -/
def Obligations.UnaddressedFrameNeverQueuesAReply : Prop :=
  ∀ (s t : State) (raw : List Byte) (now : Nat),
    (wireDecodeFrame s.params.layout (Frame.ofList raw)).messageDest ≠ s.S.controllerAddress →
    exec (.rxFrame raw now) s = .next t →
    t.outbox = s.outbox ∧ t.S = { s.S with
      seenSecondaryController := t.S.seenSecondaryController
      currentState := { s.S.currentState with
        controllerTemp := t.S.currentState.controllerTemp } }

/-- 43_session_fsm.md, RX_FRAME corner cases, and 30_encoding.md, reserved bits and opaque constants: the reaction depends on an
inbound frame only through `messageDest`, `messageType`, `controllerPresent` and the other body fields but `updateMagic`; the
source, the reserved bits, `unknownBit`, `writeBit` and `updateMagic` of the frame do not matter to any element of `S`. (The
log of an ERROR frame shows them.) -/
def Obligations.SourceAndOpaqueBitsDoNotMatter : Prop :=
  ∀ (s t t' : State) (b b' : Frame) (now : Nat),
    let F := decodeFrame s.params.layout b
    let F' := decodeFrame s.params.layout b'
    F'.messageDest = F.messageDest → F'.messageType = F.messageType →
    (∀ f : BodyField, f ≠ .updateMagic → F'.body f = F.body f) →
    exec (.rxFrame (invFrame b).toList now) s = .next t →
    exec (.rxFrame (invFrame b').toList now) s = .next t' →
    t'.S = t.S

/-! ### Replies -/

/-- 43_session_fsm.md, reply construction and its table: building a reply of a STATUS class completes in every state; the
reply is the table's, merged, persisted and queued, and the flags are cleared. Cells the source does not give are the
spec's decisions D9, D10, D11 (assumption 14); a queued reply is replaced, D24. That a reply shape is an operation on its
own is the model's reading (assumption 22). Operations: txStatusToUnitPrimary, txStatusToUnitSecondary,
txStatusToSecondaryPrimary, txLoginToUnitPrimary, txStatusMagic2ToUnitSecondary. -/
def Obligations.StatusReplyIsMergedPersistedQueued : Prop :=
  ∀ (s : State) (i : Instr) (R : ControlFrame), buildsStatusReply i = true →
    replyTable s.params s.S i = some R → ∃ M : ControlFrame, MergedReply s.S R M ∧
      exec i s = .next { s with
        S := { s.S with
          currentState := M, updateFields := 0, txBuf := wireEncodeFrame s.params.layout M
          pendingFrame := true } }

/-- 43_session_fsm.md, reply to RX_LOGIN: building it completes in every state; it is queued, with no merge and nothing
persisted (decisions D9, D10, D14, D24; assumptions 14, 22, 23, 24). Operations: txLoginEchoToSecondaryPrimary,
txLoginEchoToSecondarySecondary. -/
def Obligations.LoginEchoIsQueuedOnly : Prop :=
  ∀ (s : State) (i : Instr) (R : ControlFrame), buildsLoginEcho i = true →
    replyTable s.params s.S i = some R →
      exec i s = .next { s with
        S := { s.S with txBuf := wireEncodeFrame s.params.layout R, pendingFrame := true } }

/-- 43_session_fsm.md, "every reply is canonical ... so it encodes without loss", and the fixed bits of the opcode table's
reply rows: in a well-formed instance, whose recorded fields fit, every reply shape built in its own role queues a frame
that reads back as the same row (`decodeReply` asks every field that is a constant of the row's column, `acError` 0 of the
login frame too), carries the record persisted (for the STATUS classes) and re-encodes to itself. -/
def Obligations.QueuedReplyHasItsRowsFixedBits : Prop :=
  ∀ (s t : State) (b : Frame), s.params.wf = true →
    s.S.currentState.fits s.params.layout = true → s.S.updateState.fits s.params.layout = true →
    let Q := invFrame t.S.txBuf
    (s.S.controllerAddress = s.params.addrPrimary →
      (exec (.txStatusToUnitPrimary b) s = .next t →
        decodeReply s.params Q = some (.txStatusToUnitPrimary Q) ∧
        decodeFrame s.params.layout Q = t.S.currentState) ∧
      (exec (.txStatusToSecondaryPrimary b) s = .next t →
        decodeReply s.params Q = some (.txStatusToSecondaryPrimary Q) ∧
        decodeFrame s.params.layout Q = t.S.currentState) ∧
      (exec (.txLoginToUnitPrimary b) s = .next t →
        decodeReply s.params Q = some (.txLoginToUnitPrimary Q) ∧
        decodeFrame s.params.layout Q = t.S.currentState) ∧
      ((decodeFrame s.params.layout b).messageType = s.params.mtLogin →
        exec (.txLoginEchoToSecondaryPrimary b) s = .next t →
        decodeReply s.params Q = some (.txLoginEchoToSecondaryPrimary Q))) ∧
    (s.S.controllerAddress = s.params.addrSecondary →
      (exec (.txStatusToUnitSecondary b) s = .next t →
        decodeReply s.params Q = some (.txStatusToUnitSecondary Q) ∧
        decodeFrame s.params.layout Q = t.S.currentState) ∧
      (exec (.txStatusMagic2ToUnitSecondary b) s = .next t →
        decodeReply s.params Q = some (.txStatusMagic2ToUnitSecondary Q) ∧
        decodeFrame s.params.layout Q = t.S.currentState) ∧
      ((decodeFrame s.params.layout b).messageType = s.params.mtLogin →
        exec (.txLoginEchoToSecondarySecondary b) s = .next t →
        decodeReply s.params Q = some (.txLoginEchoToSecondarySecondary Q)))

/-- 41_pending_update.md, "a staged value is delivered in exactly one reply", and 70_reset_and_hazards.md, the lost write, for the
three STATUS classes of 43_session_fsm.md R171. An addressed STATUS frame takes everything staged into its reply and clears
the flags. After it, whatever operations follow, the reply to any addressed STATUS frame carries in every field that has
not been staged anew what its table gives, and nothing of the old staging; with nothing staged anew it is the table's reply,
`writeBit` 0. Each reply is queued in the place of one not sent (the spec's decision D24). The table's other cells are D9, D10
and D11; what CONNECT and RESET keep is D16. -/
def Obligations.StagedValuesEnterExactlyOneReply : Prop :=
  ∀ (s : State) (b : Frame) (now : Nat),
    let F := decodeFrame s.params.layout b
    s.clock ≤ now → s.S.connected = true → F.messageDest = s.S.controllerAddress →
    F.messageType = s.params.mtStatus → ∃ t : State,
      exec (.rxFrame (invFrame b).toList now) s = .next t ∧
      MergedReply s.S (statusReply s.params s.S F) t.S.currentState ∧
      t.S.txBuf = wireEncodeFrame s.params.layout t.S.currentState ∧ t.S.pendingFrame = true ∧
      t.S.updateFields = 0 ∧ t.outbox = s.outbox ∧
      ∀ (between : List Instr) (u : State) (b' : Frame) (now' : Nat),
        let F' := decodeFrame u.params.layout b'
        runAll between t = some u → u.clock ≤ now' → F'.messageDest = u.S.controllerAddress →
        F'.messageType = u.params.mtStatus → ∃ v : State,
          exec (.rxFrame (invFrame b').toList now') u = .next v ∧
          (∀ f : StageField, (∀ i ∈ between, ∀ x : Byte, stagedBy i ≠ some (f, x)) →
            v.S.currentState.body f.toBody = (statusReply u.params u.S F').body f.toBody) ∧
          ((∀ i ∈ between, stagedBy i = none) →
            v.S.currentState = statusReply u.params u.S F' ∧ v.S.currentState.writeBit = 0) ∧
          v.S.txBuf = wireEncodeFrame u.params.layout v.S.currentState ∧
          v.S.pendingFrame = true ∧ v.S.updateFields = 0 ∧ v.outbox = u.outbox

/-! ### Session -/

/-- 43_session_fsm.md, CONNECT. What it does to the elements the source does not name is the spec's decision D16. -/
def Obligations.ConnectStartsASession : Prop :=
  ∀ (s : State) (isSecondary : Bool),
    exec (.connect isSecondary) s = .next { s with
      S := { s.S with
        controllerIsPrimary := !isSecondary
        controllerAddress := if isSecondary then s.params.addrSecondary else s.params.addrPrimary
        controllerLoggedIn := false, seenSecondaryController := false, lastFrameReceived := 0
        pendingFrame := false, connected := true } }

/-- 43_session_fsm.md, RESET, and 60_exceptions.md, entry of the session reset: exactly three elements are zeroed. That a
queued reply is kept is the spec's decision D16. -/
def Obligations.ResetZeroesExactlyThreeElements : Prop :=
  ∀ s : State, exec .reset s = .next { s with
    S := { s.S with
      controllerLoggedIn := false, seenSecondaryController := false, lastFrameReceived := 0 } }

/-- 70_reset_and_hazards.md, reset with a reply queued: after RESET the stale reply leaves at the next TX_POLL at or after
`GUARD_MS`, however recently an addressed frame came. (It rests on the spec's decision D16 that RESET keeps the queue.) -/
def Obligations.StaleReplyLeavesAfterReset : Prop :=
  ∀ (s : State) (now : Nat), s.clock ≤ now → s.S.pendingFrame = true → ∃ t u : State,
    exec .reset s = .next t ∧ exec (.txPoll now) t = .next u ∧
    u.outbox = s.outbox ++ (if s.params.guardMs ≤ now then [.tx s.S.txBuf] else []) ∧
    u.S.pendingFrame = decide (now < s.params.guardMs)

/-- 43_session_fsm.md R182 to R189: each getter completes in every state, returns its field of `currentState` and changes
nothing of `S`. Operations: getOnOff, getTemp, getMode, getFanMode, getEconomyMode, getSwingMode, getSwingStep,
getControllerTemp. -/
def Obligations.GettersReturnTheirField : Prop :=
  ∀ (s : State) (i : Instr) (f : BodyField), getterField i = some f →
    exec i s = .next { s with outbox := s.outbox ++ [.value (s.S.currentState.body f)] }

/-- 43_session_fsm.md, PHASE: the label (its derivation is the spec's decision D33); nothing of `S` changes. -/
def Obligations.PhaseAnswersTheLabel : Prop :=
  ∀ s : State, ∃ p : Phase,
    exec .phase s = .next { s with outbox := s.outbox ++ [.label p] } ∧
    (p = .disconnected ↔ s.S.connected = false) ∧
    (p = .awaitingFirstContact ↔ s.S.connected = true ∧ s.S.controllerLoggedIn = false ∧
      s.S.lastFrameReceived = 0) ∧
    (p = .loggingIn ↔ s.S.connected = true ∧ s.S.controllerLoggedIn = false ∧
      s.S.lastFrameReceived ≠ 0) ∧
    (p = .boundSecondary ↔ s.S.connected = true ∧ s.S.controllerLoggedIn = true ∧
      s.S.controllerIsPrimary = false) ∧
    (p = .boundPrimaryWithSecondary ↔ s.S.connected = true ∧ s.S.controllerLoggedIn = true ∧
      s.S.controllerIsPrimary = true ∧ s.S.seenSecondaryController = true) ∧
    (p = .boundPrimaryNoSecondary ↔ s.S.connected = true ∧ s.S.controllerLoggedIn = true ∧
      s.S.controllerIsPrimary = true ∧ s.S.seenSecondaryController = false)

/-- 43_session_fsm.md, transitions of the label, for every operation the host or the transport can present, in every state of the
invariant (the table rests on the spec's decisions D12 and D33; its row for a short or ignored group is "unchanged"). A
command, or a poll that fires, goes to AWAITING_FIRST_CONTACT; an addressed frame with `controllerPresent` 1 and type STATUS
goes to a BOUND label; any other addressed frame at a time past 0 goes from AWAITING_FIRST_CONTACT to LOGGING_IN; an
observed frame adds the secondary; nothing else moves the label, and before CONNECT nothing at all does. -/
def Obligations.PhaseTransitions : Prop :=
  ∀ (s t : State) (i : Instr), Inv s → presentable i = true → exec i s = .next t →
    (∀ isSecondary, i = .connect isSecondary → t.S.phase = .awaitingFirstContact) ∧
    ((∀ isSecondary, i ≠ .connect isSecondary) → s.S.phase = .disconnected →
      t.S.phase = .disconnected) ∧
    (s.S.phase ≠ .disconnected →
      (i = .reset → t.S.phase = .awaitingFirstContact) ∧
      (∀ now thresholdMs, i = .timeoutPoll now thresholdMs ∨ i = .tick now thresholdMs →
        t.S.phase = if thresholdMs ≤ now - s.S.lastFrameReceived then .awaitingFirstContact
          else s.S.phase) ∧
      (∀ raw now, groupOf i = some (raw, now) →
        t.S.phase =
          match classify s.mode raw, s.S.phase with
          | .statusCp1, _ =>
            if s.S.controllerIsPrimary = false then .boundSecondary
            else if s.S.seenSecondaryController then .boundPrimaryWithSecondary
            else .boundPrimaryNoSecondary
          | .observe, .boundPrimaryNoSecondary => .boundPrimaryWithSecondary
          | .statusCp0Pri, .awaitingFirstContact | .statusCp0Sec, .awaitingFirstContact
          | .login, .awaitingFirstContact | .error, .awaitingFirstContact
          | .reserved, .awaitingFirstContact =>
            if 0 < now then .loggingIn else .awaitingFirstContact
          | _, p => p) ∧
      ((∀ isSecondary, i ≠ .connect isSecondary) → i ≠ .reset → groupOf i = none →
        (∀ now thresholdMs, i ≠ .timeoutPoll now thresholdMs ∧ i ≠ .tick now thresholdMs) →
        t.S.phase = s.S.phase))

/-- 30_encoding.md, the command table: the three unassigned codes do nothing (the spec's decision D21). Operations: unassigned00,
unassigned07, unassigned0F. -/
def Obligations.UnassignedCodesDoNothing : Prop :=
  ∀ (s : State) (i : Instr), i = .unassigned00 ∨ i = .unassigned07 ∨ i = .unassigned0F →
    exec i s = .next s

/-! ### The whole machine -/

/-- 10_state.md R32: the role is written by CONNECT alone, as `not isSecondary`; and with it the address (R33) and the
instance, which nothing writes. -/
def Obligations.RoleIsFixedByConnectAlone : Prop :=
  ∀ (s t : State) (i : Instr), exec i s = .next t →
    t.params = s.params ∧
    (∀ isSecondary, i = .connect isSecondary → t.S.controllerIsPrimary = !isSecondary) ∧
    ((∀ isSecondary, i ≠ .connect isSecondary) →
      t.S.controllerIsPrimary = s.S.controllerIsPrimary ∧
      t.S.controllerAddress = s.S.controllerAddress ∧ t.S.connected = s.S.connected)

/-- 10_state.md, summary of all state, column "written by" for the remaining elements: which operations can change each,
over every operation and every state. (Where the column names a rule of a reply or of an internal operation, the rows of
the opcode table that stand for it are named too.) -/
def Obligations.EachElementHasItsWriters : Prop :=
  ∀ (s t : State) (i : Instr), exec i s = .next t →
    let received := (groupOf i).isSome = true
    let timeout := ∃ now thresholdMs, i = .timeoutPoll now thresholdMs ∨ i = .tick now thresholdMs
    let session := (∃ v, i = .connect v) ∨ i = .reset
    (t.S.controllerLoggedIn ≠ s.S.controllerLoggedIn → received ∨ timeout ∨ session) ∧
    (t.S.seenSecondaryController ≠ s.S.seenSecondaryController → received ∨ timeout ∨ session) ∧
    (t.S.lastFrameReceived ≠ s.S.lastFrameReceived →
      received ∨ timeout ∨ session ∨ ∃ now, i = .onFrameReceived now) ∧
    (t.S.currentState ≠ s.S.currentState → received ∨ buildsStatusReply i = true) ∧
    (t.S.updateState ≠ s.S.updateState → (stagedBy i).isSome = true) ∧
    (t.S.updateFields ≠ s.S.updateFields →
      (stagedBy i).isSome = true ∨ received ∨ buildsStatusReply i = true ∨
        ∃ R, i = .applyAndClear R) ∧
    (t.S.txBuf ≠ s.S.txBuf →
      received ∨ buildsStatusReply i = true ∨ buildsLoginEcho i = true) ∧
    (t.S.pendingFrame ≠ s.S.pendingFrame →
      received ∨ buildsStatusReply i = true ∨ buildsLoginEcho i = true ∨ (∃ v, i = .connect v) ∨
        ∃ now thresholdMs, i = .txPoll now ∨ i = .tick now thresholdMs)

/-- 60_exceptions.md, "No operation of the block can fail": every operation completes in every state, unless the
environment breaks an obligation of 70_reset_and_hazards.md (D32): its time is earlier than the last, or its group has
more than 8 bytes. -/
def Obligations.EveryOperationCompletes : Prop :=
  ∀ (s : State) (i : Instr), (∀ now, timeOf i = some now → s.clock ≤ now) →
    (∀ raw now, groupOf i = some (raw, now) → raw.length ≤ 8) →
    ∃ t : State, exec i s = .next t ∧ s.clock ≤ t.clock

/-- 70_reset_and_hazards.md, obligations O2 and O3, and the spec's decision D32: an event that breaks one is refused, by name. -/
def Obligations.BrokenObligationsAreRefused : Prop :=
  ∀ (s : State) (i : Instr),
    (∀ now, timeOf i = some now → now < s.clock →
      (∀ raw, groupOf i = some (raw, now) → raw.length ≤ 8) →
      exec i s = .refused .timeDecreased) ∧
    (∀ raw now, groupOf i = some (raw, now) → 8 < raw.length →
      exec i s = .refused .groupTooLong)

/-- The step takes the oldest event and does its operation on the machine without that event (20_memory.md, ordering); the
queue, the idle step and the refusals are the model's (assumptions 3, 4, 7, 8, 9). -/
def Obligations.StepDoesTheDecodedOperation : Prop :=
  ∀ (s : State) (p : Packet) (rest : List Packet),
    (s.inbox = [] → step s = .next s) ∧
    (s.inbox = p :: rest → s.params.wf = true →
      (∀ i, decode s.mode p = .ok i → step s = exec i { s with inbox := rest }) ∧
      (∀ e, decode s.mode p = .rejected e → step s = .refused (.malformed e))) ∧
    (s.inbox = p :: rest → s.params.wf = false → step s = .refused .illFormedParams)

/-- Encoding and decoding agree, in every mode: a well-formed operation that an event stands for is read back from its event,
with every operand at every value; and a reply shape is read back from its frame, in a well-formed instance. (The codes
are 30_encoding.md's, decision D21; the layout of operands is assumption 3.) -/
def Obligations.DecodeReadsBackEncode : Prop :=
  ∀ (m : Mode) (i : Instr), i.wf m = true →
    (∀ p : Packet, encode i = some p → decode m p = .ok i) ∧
    (∀ b : Frame, m.params.wf = true → encodeReply i = some b → decodeReply m.params b = some i)

/-- Whatever the decoder reads is well formed in the mode it was read in, and is no internal operation and no reply
(30_encoding.md, internal operations). -/
def Obligations.DecodedOperationIsWellFormed : Prop :=
  ∀ (m : Mode) (p : Packet) (i : Instr), decode m p = .ok i →
    i.wf m = true ∧ presentable i = true

/-- Words written out from the tables: four command codes of 30_encoding.md's command table, and frames of the frame map in the
opcode table's numbering (P0, a PRESUMED instance: assumption 2). -/
def Obligations.TableWordsDecode : Prop :=
  decodeTableWord 8 0b00001 = some (.connect false) ∧
  decodeTableWord 8 0b00110 = some (.tick 0 0) ∧
  decodeTableWord 8 0b10111 = some .getControllerTemp ∧
  decodeTableWord 8 0b11100 = some .phase ∧
  decodeTableWord 64 0x0120002718000100 =
    some (.rxStatusCp1Primary ⟨0x01, 0x20, 0x00, 0x27, 0x18, 0x00, 0x01, 0x00⟩ 0) ∧
  decodeTableWord 64 0x0121001915000000 =
    some (.rxStatusCp0Sec ⟨0x01, 0x21, 0x00, 0x19, 0x15, 0x00, 0x00, 0x00⟩ 0)

/-- 10_state.md R43, as an invariant of the step: from every state that meets it, whatever event is taken, the next state
meets it. -/
def Obligations.StepKeepsTheInvariant : Prop :=
  ∀ s t : State, Inv s → step s = .next t → Inv t

/-- The machine of any well-formed instance meets the invariant at power-on, and so does the reset machine. -/
def Obligations.PowerOnMeetsTheInvariant : Prop :=
  (∀ P : Params, P.wf = true → Inv (State.powerOn P)) ∧ Inv State.reset

/-- 10_state.md, summary of all state, column "pw" (the spec's own choice, decision D15): the power-on values, for any
instance. -/
def Obligations.PowerOnValues : Prop :=
  ∀ P : Params,
    let S := (State.powerOn P).S
    S.connected = false ∧ S.controllerIsPrimary = true ∧ S.controllerAddress = P.addrPrimary ∧
    S.controllerLoggedIn = false ∧ S.seenSecondaryController = false ∧ S.lastFrameReceived = 0 ∧
    (∀ f : BodyField, S.currentState.body f = 0 ∧ S.updateState.body f = 0) ∧
    S.currentState.messageSource = 0 ∧ S.currentState.messageDest = 0 ∧
    S.currentState.messageType = 0 ∧ S.currentState.writeBit = 0 ∧ S.currentState.loginBit = 0 ∧
    S.currentState.unknownBit = 0 ∧ S.updateFields = 0 ∧ S.pendingFrame = false ∧
    (∀ i : Fin 8, S.txBuf.get i = 0) ∧ S.phase = .disconnected
end

