-- ==== Sys2Proof/Laws/Codec.lean ====
section
/-! SUPPORT. Small laws of frames, records and the bit-field helpers, cited by every proof about the codec. -/

namespace Sys2Proof

/-! ### Bytes -/

@[simp] theorem inv8_inv8 (x : Byte) : inv8 (inv8 x) = x := by
  simp [inv8]

/-- `merge` changes only the bits of the mask (00_scope.md R13). -/
theorem merge_and_not (b m v : Byte) (o : Nat) : merge b m o v &&& ~~~m = b &&& ~~~m := by
  ext k hk
  simp only [merge, BitVec.getElem_and, BitVec.getElem_or, BitVec.getElem_not]
  cases m[k] <;> simp

/-- In the bits of the mask `merge` has the shifted value. -/
theorem merge_and (b m v : Byte) (o : Nat) : merge b m o v &&& m = (v <<< o) &&& m := by
  ext k hk
  simp only [merge, BitVec.getElem_and, BitVec.getElem_or, BitVec.getElem_not]
  cases m[k] <;> simp

/-- A merge under one mask is not seen under a disjoint one. -/
theorem merge_and_disjoint {m m' : Byte} (h : m &&& m' = 0) (b v : Byte) (o : Nat) :
    merge b m o v &&& m' = b &&& m' := by
  ext k hk
  have hk' := congrArg (fun x : Byte => x[k]) h
  simp only [BitVec.getElem_and, BitVec.ofNat_eq_ofNat, BitVec.getElem_zero] at hk'
  simp only [merge, BitVec.getElem_and, BitVec.getElem_or, BitVec.getElem_not]
  revert hk'
  cases m[k] <;> cases m'[k] <;> simp

/-- The truncated value of an operand. -/
theorem truncTo_toNat (w : Nat) (v : Byte) : (truncTo w v).toNat = v.toNat % 2 ^ w := by
  have h : v.toNat % 2 ^ w ≤ v.toNat := Nat.mod_le _ _
  have := v.isLt
  simp only [truncTo, BitVec.toNat_ofNat]
  omega

/-! ### Frames -/

theorem Frame.ext_get {b c : Frame} (h : ∀ i : Fin 8, b.get i = c.get i) : b = c := by
  cases b; cases c
  have h0 := h 0; have h1 := h 1; have h2 := h 2; have h3 := h 3
  have h4 := h 4; have h5 := h 5; have h6 := h 6; have h7 := h 7
  simp only [Frame.get] at h0 h1 h2 h3 h4 h5 h6 h7
  simp [h0, h1, h2, h3, h4, h5, h6, h7]

/-- Read after write: the written byte, and every other byte unchanged. -/
theorem Frame.get_set (b : Frame) (i j : Fin 8) (v : Byte) :
    (b.set i v).get j = if i = j then v else b.get j := by
  fin_cases i <;> fin_cases j <;> rfl

theorem Frame.get_mergeAt (b : Frame) (p : Place) (v : Byte) (j : Fin 8) :
    (b.mergeAt p v).get j = if p.idx = j then merge (b.get j) p.mask p.off v else b.get j := by
  unfold Frame.mergeAt
  rw [Frame.get_set]
  split
  · next h => rw [h]
  · rfl

@[simp] theorem get_invFrame (b : Frame) (i : Fin 8) : (invFrame b).get i = inv8 (b.get i) := by
  fin_cases i <;> rfl

@[simp] theorem invFrame_invFrame (b : Frame) : invFrame (invFrame b) = b := by
  simp [invFrame]

@[simp] theorem Frame.toList_length (b : Frame) : b.toList.length = 8 := rfl

@[simp] theorem Frame.ofList_toList (b : Frame) : Frame.ofList b.toList = b := rfl

theorem Frame.toList_ofList {l : List Byte} (h : l.length = 8) : (Frame.ofList l).toList = l := by
  match l, h with
  | [_, _, _, _, _, _, _, _], _ => rfl

/-! ### Records -/

@[simp] theorem ControlFrame.body_setBody (F : ControlFrame) (f g : BodyField) (v : Byte) :
    (F.setBody f v).body g = if f = g then v else F.body g := by
  cases f <;> cases g <;> rfl

@[simp] theorem ControlFrame.setBody_messageSource (F : ControlFrame) (f : BodyField) (v : Byte) :
    (F.setBody f v).messageSource = F.messageSource := by cases f <;> rfl
@[simp] theorem ControlFrame.setBody_messageDest (F : ControlFrame) (f : BodyField) (v : Byte) :
    (F.setBody f v).messageDest = F.messageDest := by cases f <;> rfl
@[simp] theorem ControlFrame.setBody_messageType (F : ControlFrame) (f : BodyField) (v : Byte) :
    (F.setBody f v).messageType = F.messageType := by cases f <;> rfl
@[simp] theorem ControlFrame.setBody_writeBit (F : ControlFrame) (f : BodyField) (v : Byte) :
    (F.setBody f v).writeBit = F.writeBit := by cases f <;> rfl
@[simp] theorem ControlFrame.setBody_loginBit (F : ControlFrame) (f : BodyField) (v : Byte) :
    (F.setBody f v).loginBit = F.loginBit := by cases f <;> rfl
@[simp] theorem ControlFrame.setBody_unknownBit (F : ControlFrame) (f : BodyField) (v : Byte) :
    (F.setBody f v).unknownBit = F.unknownBit := by cases f <;> rfl

/-- A record is its six header fields and its body fields. -/
theorem ControlFrame.ext_body {F G : ControlFrame} (h1 : F.messageSource = G.messageSource)
    (h2 : F.messageDest = G.messageDest) (h3 : F.messageType = G.messageType)
    (h4 : F.writeBit = G.writeBit) (h5 : F.loginBit = G.loginBit)
    (h6 : F.unknownBit = G.unknownBit) (hb : ∀ f : BodyField, F.body f = G.body f) : F = G := by
  have b1 := hb .acError; have b2 := hb .temperature; have b3 := hb .acMode
  have b4 := hb .fanMode; have b5 := hb .economyMode; have b6 := hb .swingMode
  have b7 := hb .swingStep; have b8 := hb .controllerPresent; have b9 := hb .updateMagic
  have b10 := hb .onOff; have b11 := hb .controllerTemp
  cases F; cases G
  simp only [ControlFrame.body] at *
  simp_all

@[simp] theorem ControlFrame.ofBytes_toBytes (F : ControlFrame) : ControlFrame.ofBytes F.toBytes = F := by
  cases F
  simp [ControlFrame.ofBytes, ControlFrame.toBytes]

@[simp] theorem ControlFrame.toBytes_length (F : ControlFrame) : F.toBytes.length = 17 := rfl

theorem BodyField.mem_all (f : BodyField) : f ∈ BodyField.all := by
  cases f <;> decide

theorem StageField.mem_all (f : StageField) : f ∈ StageField.all := by
  cases f <;> decide

theorem StageField.toBody_injective {f g : StageField} (h : f.toBody = g.toBody) : f = g := by
  cases f <;> cases g <;> first | rfl | simp [StageField.toBody] at h

@[simp] theorem body_decodeFrame (L : Layout) (b : Frame) (f : BodyField) :
    (decodeFrame L b).body f = b.extractAt (L.place f) := by
  cases f <;> rfl

end Sys2Proof
end

