-- ==== Sys2Proof/Laws/State.lean ====
section
/-! SUPPORT. One lemma per field per update of the state, each true by unfolding, tagged for simp, so that no later proof
unfolds a record update. -/

namespace Sys2Proof.Machine

section
variable (S : Session) (s : State)

/-! ### `onFrameReceived` -/

@[simp] theorem Session.onFrameReceived_connected (now : Nat) :
    (S.onFrameReceived now).connected = S.connected := rfl
@[simp] theorem Session.onFrameReceived_controllerIsPrimary (now : Nat) :
    (S.onFrameReceived now).controllerIsPrimary = S.controllerIsPrimary := rfl
@[simp] theorem Session.onFrameReceived_controllerAddress (now : Nat) :
    (S.onFrameReceived now).controllerAddress = S.controllerAddress := rfl
@[simp] theorem Session.onFrameReceived_controllerLoggedIn (now : Nat) :
    (S.onFrameReceived now).controllerLoggedIn = S.controllerLoggedIn := rfl
@[simp] theorem Session.onFrameReceived_seenSecondaryController (now : Nat) :
    (S.onFrameReceived now).seenSecondaryController = S.seenSecondaryController := rfl
@[simp] theorem Session.onFrameReceived_lastFrameReceived (now : Nat) :
    (S.onFrameReceived now).lastFrameReceived = now := rfl
@[simp] theorem Session.onFrameReceived_currentState (now : Nat) :
    (S.onFrameReceived now).currentState = S.currentState := rfl
@[simp] theorem Session.onFrameReceived_updateState (now : Nat) :
    (S.onFrameReceived now).updateState = S.updateState := rfl
@[simp] theorem Session.onFrameReceived_updateFields (now : Nat) :
    (S.onFrameReceived now).updateFields = S.updateFields := rfl
@[simp] theorem Session.onFrameReceived_pendingFrame (now : Nat) :
    (S.onFrameReceived now).pendingFrame = S.pendingFrame := rfl
@[simp] theorem Session.onFrameReceived_txBuf (now : Nat) :
    (S.onFrameReceived now).txBuf = S.txBuf := rfl

/-! ### `login` -/

@[simp] theorem Session.login_connected :
    (S.login).connected = S.connected := rfl
@[simp] theorem Session.login_controllerIsPrimary :
    (S.login).controllerIsPrimary = S.controllerIsPrimary := rfl
@[simp] theorem Session.login_controllerAddress :
    (S.login).controllerAddress = S.controllerAddress := rfl
@[simp] theorem Session.login_controllerLoggedIn :
    (S.login).controllerLoggedIn = true := rfl
@[simp] theorem Session.login_seenSecondaryController :
    (S.login).seenSecondaryController = S.seenSecondaryController := rfl
@[simp] theorem Session.login_lastFrameReceived :
    (S.login).lastFrameReceived = S.lastFrameReceived := rfl
@[simp] theorem Session.login_currentState :
    (S.login).currentState = S.currentState := rfl
@[simp] theorem Session.login_updateState :
    (S.login).updateState = S.updateState := rfl
@[simp] theorem Session.login_updateFields :
    (S.login).updateFields = S.updateFields := rfl
@[simp] theorem Session.login_pendingFrame :
    (S.login).pendingFrame = S.pendingFrame := rfl
@[simp] theorem Session.login_txBuf :
    (S.login).txBuf = S.txBuf := rfl

/-! ### `stage` -/

@[simp] theorem Session.stage_connected (L : Layout) (f : StageField) (v : Byte) :
    (S.stage L f v).connected = S.connected := rfl
@[simp] theorem Session.stage_controllerIsPrimary (L : Layout) (f : StageField) (v : Byte) :
    (S.stage L f v).controllerIsPrimary = S.controllerIsPrimary := rfl
@[simp] theorem Session.stage_controllerAddress (L : Layout) (f : StageField) (v : Byte) :
    (S.stage L f v).controllerAddress = S.controllerAddress := rfl
@[simp] theorem Session.stage_controllerLoggedIn (L : Layout) (f : StageField) (v : Byte) :
    (S.stage L f v).controllerLoggedIn = S.controllerLoggedIn := rfl
@[simp] theorem Session.stage_seenSecondaryController (L : Layout) (f : StageField) (v : Byte) :
    (S.stage L f v).seenSecondaryController = S.seenSecondaryController := rfl
@[simp] theorem Session.stage_lastFrameReceived (L : Layout) (f : StageField) (v : Byte) :
    (S.stage L f v).lastFrameReceived = S.lastFrameReceived := rfl
@[simp] theorem Session.stage_currentState (L : Layout) (f : StageField) (v : Byte) :
    (S.stage L f v).currentState = S.currentState := rfl
@[simp] theorem Session.stage_updateState (L : Layout) (f : StageField) (v : Byte) :
    (S.stage L f v).updateState = S.updateState.setBody f.toBody (truncTo (L.width f.toBody) v) := rfl
@[simp] theorem Session.stage_updateFields (L : Layout) (f : StageField) (v : Byte) :
    (S.stage L f v).updateFields = setDirty S.updateFields f := rfl
@[simp] theorem Session.stage_pendingFrame (L : Layout) (f : StageField) (v : Byte) :
    (S.stage L f v).pendingFrame = S.pendingFrame := rfl
@[simp] theorem Session.stage_txBuf (L : Layout) (f : StageField) (v : Byte) :
    (S.stage L f v).txBuf = S.txBuf := rfl

/-! ### `clearDirty` -/

@[simp] theorem Session.clearDirty_connected :
    (S.clearDirty).connected = S.connected := rfl
@[simp] theorem Session.clearDirty_controllerIsPrimary :
    (S.clearDirty).controllerIsPrimary = S.controllerIsPrimary := rfl
@[simp] theorem Session.clearDirty_controllerAddress :
    (S.clearDirty).controllerAddress = S.controllerAddress := rfl
@[simp] theorem Session.clearDirty_controllerLoggedIn :
    (S.clearDirty).controllerLoggedIn = S.controllerLoggedIn := rfl
@[simp] theorem Session.clearDirty_seenSecondaryController :
    (S.clearDirty).seenSecondaryController = S.seenSecondaryController := rfl
@[simp] theorem Session.clearDirty_lastFrameReceived :
    (S.clearDirty).lastFrameReceived = S.lastFrameReceived := rfl
@[simp] theorem Session.clearDirty_currentState :
    (S.clearDirty).currentState = S.currentState := rfl
@[simp] theorem Session.clearDirty_updateState :
    (S.clearDirty).updateState = S.updateState := rfl
@[simp] theorem Session.clearDirty_updateFields :
    (S.clearDirty).updateFields = 0 := rfl
@[simp] theorem Session.clearDirty_pendingFrame :
    (S.clearDirty).pendingFrame = S.pendingFrame := rfl
@[simp] theorem Session.clearDirty_txBuf :
    (S.clearDirty).txBuf = S.txBuf := rfl

/-! ### `persist` -/

@[simp] theorem Session.persist_connected (R : ControlFrame) :
    (S.persist R).connected = S.connected := rfl
@[simp] theorem Session.persist_controllerIsPrimary (R : ControlFrame) :
    (S.persist R).controllerIsPrimary = S.controllerIsPrimary := rfl
@[simp] theorem Session.persist_controllerAddress (R : ControlFrame) :
    (S.persist R).controllerAddress = S.controllerAddress := rfl
@[simp] theorem Session.persist_controllerLoggedIn (R : ControlFrame) :
    (S.persist R).controllerLoggedIn = S.controllerLoggedIn := rfl
@[simp] theorem Session.persist_seenSecondaryController (R : ControlFrame) :
    (S.persist R).seenSecondaryController = S.seenSecondaryController := rfl
@[simp] theorem Session.persist_lastFrameReceived (R : ControlFrame) :
    (S.persist R).lastFrameReceived = S.lastFrameReceived := rfl
@[simp] theorem Session.persist_currentState (R : ControlFrame) :
    (S.persist R).currentState = R := rfl
@[simp] theorem Session.persist_updateState (R : ControlFrame) :
    (S.persist R).updateState = S.updateState := rfl
@[simp] theorem Session.persist_updateFields (R : ControlFrame) :
    (S.persist R).updateFields = S.updateFields := rfl
@[simp] theorem Session.persist_pendingFrame (R : ControlFrame) :
    (S.persist R).pendingFrame = S.pendingFrame := rfl
@[simp] theorem Session.persist_txBuf (R : ControlFrame) :
    (S.persist R).txBuf = S.txBuf := rfl

/-! ### `queue` -/

@[simp] theorem Session.queue_connected (L : Layout) (R : ControlFrame) :
    (S.queue L R).connected = S.connected := rfl
@[simp] theorem Session.queue_controllerIsPrimary (L : Layout) (R : ControlFrame) :
    (S.queue L R).controllerIsPrimary = S.controllerIsPrimary := rfl
@[simp] theorem Session.queue_controllerAddress (L : Layout) (R : ControlFrame) :
    (S.queue L R).controllerAddress = S.controllerAddress := rfl
@[simp] theorem Session.queue_controllerLoggedIn (L : Layout) (R : ControlFrame) :
    (S.queue L R).controllerLoggedIn = S.controllerLoggedIn := rfl
@[simp] theorem Session.queue_seenSecondaryController (L : Layout) (R : ControlFrame) :
    (S.queue L R).seenSecondaryController = S.seenSecondaryController := rfl
@[simp] theorem Session.queue_lastFrameReceived (L : Layout) (R : ControlFrame) :
    (S.queue L R).lastFrameReceived = S.lastFrameReceived := rfl
@[simp] theorem Session.queue_currentState (L : Layout) (R : ControlFrame) :
    (S.queue L R).currentState = S.currentState := rfl
@[simp] theorem Session.queue_updateState (L : Layout) (R : ControlFrame) :
    (S.queue L R).updateState = S.updateState := rfl
@[simp] theorem Session.queue_updateFields (L : Layout) (R : ControlFrame) :
    (S.queue L R).updateFields = S.updateFields := rfl
@[simp] theorem Session.queue_pendingFrame (L : Layout) (R : ControlFrame) :
    (S.queue L R).pendingFrame = true := rfl
@[simp] theorem Session.queue_txBuf (L : Layout) (R : ControlFrame) :
    (S.queue L R).txBuf = wireEncodeFrame L R := rfl

/-! ### `answer` -/

@[simp] theorem Session.answer_connected (L : Layout) (R : ControlFrame) :
    (S.answer L R).connected = S.connected := rfl
@[simp] theorem Session.answer_controllerIsPrimary (L : Layout) (R : ControlFrame) :
    (S.answer L R).controllerIsPrimary = S.controllerIsPrimary := rfl
@[simp] theorem Session.answer_controllerAddress (L : Layout) (R : ControlFrame) :
    (S.answer L R).controllerAddress = S.controllerAddress := rfl
@[simp] theorem Session.answer_controllerLoggedIn (L : Layout) (R : ControlFrame) :
    (S.answer L R).controllerLoggedIn = S.controllerLoggedIn := rfl
@[simp] theorem Session.answer_seenSecondaryController (L : Layout) (R : ControlFrame) :
    (S.answer L R).seenSecondaryController = S.seenSecondaryController := rfl
@[simp] theorem Session.answer_lastFrameReceived (L : Layout) (R : ControlFrame) :
    (S.answer L R).lastFrameReceived = S.lastFrameReceived := rfl
@[simp] theorem Session.answer_currentState (L : Layout) (R : ControlFrame) :
    (S.answer L R).currentState = S.merged R := rfl
@[simp] theorem Session.answer_updateState (L : Layout) (R : ControlFrame) :
    (S.answer L R).updateState = S.updateState := rfl
@[simp] theorem Session.answer_updateFields (L : Layout) (R : ControlFrame) :
    (S.answer L R).updateFields = 0 := rfl
@[simp] theorem Session.answer_pendingFrame (L : Layout) (R : ControlFrame) :
    (S.answer L R).pendingFrame = true := rfl
@[simp] theorem Session.answer_txBuf (L : Layout) (R : ControlFrame) :
    (S.answer L R).txBuf = wireEncodeFrame L (S.merged R) := rfl

/-! ### `observe` -/

@[simp] theorem Session.observe_connected (F : ControlFrame) :
    (S.observe F).connected = S.connected := rfl
@[simp] theorem Session.observe_controllerIsPrimary (F : ControlFrame) :
    (S.observe F).controllerIsPrimary = S.controllerIsPrimary := rfl
@[simp] theorem Session.observe_controllerAddress (F : ControlFrame) :
    (S.observe F).controllerAddress = S.controllerAddress := rfl
@[simp] theorem Session.observe_controllerLoggedIn (F : ControlFrame) :
    (S.observe F).controllerLoggedIn = S.controllerLoggedIn := rfl
@[simp] theorem Session.observe_seenSecondaryController (F : ControlFrame) :
    (S.observe F).seenSecondaryController = true := rfl
@[simp] theorem Session.observe_lastFrameReceived (F : ControlFrame) :
    (S.observe F).lastFrameReceived = S.lastFrameReceived := rfl
@[simp] theorem Session.observe_currentState (F : ControlFrame) :
    (S.observe F).currentState = { S.currentState with controllerTemp := F.controllerTemp } := rfl
@[simp] theorem Session.observe_updateState (F : ControlFrame) :
    (S.observe F).updateState = S.updateState := rfl
@[simp] theorem Session.observe_updateFields (F : ControlFrame) :
    (S.observe F).updateFields = S.updateFields := rfl
@[simp] theorem Session.observe_pendingFrame (F : ControlFrame) :
    (S.observe F).pendingFrame = S.pendingFrame := rfl
@[simp] theorem Session.observe_txBuf (F : ControlFrame) :
    (S.observe F).txBuf = S.txBuf := rfl

/-! ### `sent` -/

@[simp] theorem Session.sent_connected :
    (S.sent).connected = S.connected := rfl
@[simp] theorem Session.sent_controllerIsPrimary :
    (S.sent).controllerIsPrimary = S.controllerIsPrimary := rfl
@[simp] theorem Session.sent_controllerAddress :
    (S.sent).controllerAddress = S.controllerAddress := rfl
@[simp] theorem Session.sent_controllerLoggedIn :
    (S.sent).controllerLoggedIn = S.controllerLoggedIn := rfl
@[simp] theorem Session.sent_seenSecondaryController :
    (S.sent).seenSecondaryController = S.seenSecondaryController := rfl
@[simp] theorem Session.sent_lastFrameReceived :
    (S.sent).lastFrameReceived = S.lastFrameReceived := rfl
@[simp] theorem Session.sent_currentState :
    (S.sent).currentState = S.currentState := rfl
@[simp] theorem Session.sent_updateState :
    (S.sent).updateState = S.updateState := rfl
@[simp] theorem Session.sent_updateFields :
    (S.sent).updateFields = S.updateFields := rfl
@[simp] theorem Session.sent_pendingFrame :
    (S.sent).pendingFrame = false := rfl
@[simp] theorem Session.sent_txBuf :
    (S.sent).txBuf = S.txBuf := rfl

/-! ### `resetSession` -/

@[simp] theorem Session.resetSession_connected :
    (S.resetSession).connected = S.connected := rfl
@[simp] theorem Session.resetSession_controllerIsPrimary :
    (S.resetSession).controllerIsPrimary = S.controllerIsPrimary := rfl
@[simp] theorem Session.resetSession_controllerAddress :
    (S.resetSession).controllerAddress = S.controllerAddress := rfl
@[simp] theorem Session.resetSession_controllerLoggedIn :
    (S.resetSession).controllerLoggedIn = false := rfl
@[simp] theorem Session.resetSession_seenSecondaryController :
    (S.resetSession).seenSecondaryController = false := rfl
@[simp] theorem Session.resetSession_lastFrameReceived :
    (S.resetSession).lastFrameReceived = 0 := rfl
@[simp] theorem Session.resetSession_currentState :
    (S.resetSession).currentState = S.currentState := rfl
@[simp] theorem Session.resetSession_updateState :
    (S.resetSession).updateState = S.updateState := rfl
@[simp] theorem Session.resetSession_updateFields :
    (S.resetSession).updateFields = S.updateFields := rfl
@[simp] theorem Session.resetSession_pendingFrame :
    (S.resetSession).pendingFrame = S.pendingFrame := rfl
@[simp] theorem Session.resetSession_txBuf :
    (S.resetSession).txBuf = S.txBuf := rfl

/-! ### `connect` -/

@[simp] theorem Session.connect_connected (P : Params) (isSecondary : Bool) :
    (S.connect P isSecondary).connected = true := rfl
@[simp] theorem Session.connect_controllerIsPrimary (P : Params) (isSecondary : Bool) :
    (S.connect P isSecondary).controllerIsPrimary = !isSecondary := rfl
@[simp] theorem Session.connect_controllerAddress (P : Params) (isSecondary : Bool) :
    (S.connect P isSecondary).controllerAddress = (if isSecondary then P.addrSecondary else P.addrPrimary) := rfl
@[simp] theorem Session.connect_controllerLoggedIn (P : Params) (isSecondary : Bool) :
    (S.connect P isSecondary).controllerLoggedIn = false := rfl
@[simp] theorem Session.connect_seenSecondaryController (P : Params) (isSecondary : Bool) :
    (S.connect P isSecondary).seenSecondaryController = false := rfl
@[simp] theorem Session.connect_lastFrameReceived (P : Params) (isSecondary : Bool) :
    (S.connect P isSecondary).lastFrameReceived = 0 := rfl
@[simp] theorem Session.connect_currentState (P : Params) (isSecondary : Bool) :
    (S.connect P isSecondary).currentState = S.currentState := rfl
@[simp] theorem Session.connect_updateState (P : Params) (isSecondary : Bool) :
    (S.connect P isSecondary).updateState = S.updateState := rfl
@[simp] theorem Session.connect_updateFields (P : Params) (isSecondary : Bool) :
    (S.connect P isSecondary).updateFields = S.updateFields := rfl
@[simp] theorem Session.connect_pendingFrame (P : Params) (isSecondary : Bool) :
    (S.connect P isSecondary).pendingFrame = false := rfl
@[simp] theorem Session.connect_txBuf (P : Params) (isSecondary : Bool) :
    (S.connect P isSecondary).txBuf = S.txBuf := rfl

/-! ### `withS` -/

@[simp] theorem State.withS_S (T : Session) : (s.withS T).S = T := rfl
@[simp] theorem State.withS_params (T : Session) : (s.withS T).params = s.params := rfl
@[simp] theorem State.withS_clock (T : Session) : (s.withS T).clock = s.clock := rfl
@[simp] theorem State.withS_draws (T : Session) : (s.withS T).draws = s.draws := rfl
@[simp] theorem State.withS_inbox (T : Session) : (s.withS T).inbox = s.inbox := rfl
@[simp] theorem State.withS_outbox (T : Session) : (s.withS T).outbox = s.outbox := rfl

/-! ### `emit` -/

@[simp] theorem State.emit_S (o : Output) : (s.emit o).S = s.S := rfl
@[simp] theorem State.emit_params (o : Output) : (s.emit o).params = s.params := rfl
@[simp] theorem State.emit_clock (o : Output) : (s.emit o).clock = s.clock := rfl
@[simp] theorem State.emit_draws (o : Output) : (s.emit o).draws = s.draws := rfl
@[simp] theorem State.emit_inbox (o : Output) : (s.emit o).inbox = s.inbox := rfl
@[simp] theorem State.emit_outbox (o : Output) : (s.emit o).outbox = s.outbox ++ [o] := rfl

/-! ### `at` -/

@[simp] theorem State.at_S (now : Nat) : (s.at now).S = s.S := rfl
@[simp] theorem State.at_params (now : Nat) : (s.at now).params = s.params := rfl
@[simp] theorem State.at_clock (now : Nat) : (s.at now).clock = now := rfl
@[simp] theorem State.at_draws (now : Nat) : (s.at now).draws = s.draws := rfl
@[simp] theorem State.at_inbox (now : Nat) : (s.at now).inbox = s.inbox := rfl
@[simp] theorem State.at_outbox (now : Nat) : (s.at now).outbox = s.outbox := rfl

/-! ### `draw` -/

@[simp] theorem State.draw_S : (s.draw).S = s.S := rfl
@[simp] theorem State.draw_params : (s.draw).params = s.params := rfl
@[simp] theorem State.draw_clock : (s.draw).clock = s.clock := rfl
@[simp] theorem State.draw_draws : (s.draw).draws = s.draws + 1 := rfl
@[simp] theorem State.draw_inbox : (s.draw).inbox = s.inbox := rfl
@[simp] theorem State.draw_outbox : (s.draw).outbox = s.outbox := rfl

/-! ### `mode` -/

@[simp] theorem State.mode_params : s.mode.params = s.params := rfl
@[simp] theorem State.mode_connected : s.mode.connected = s.S.connected := rfl
@[simp] theorem State.mode_isPrimary : s.mode.isPrimary = s.S.controllerIsPrimary := rfl
@[simp] theorem State.mode_own : s.mode.own = s.S.controllerAddress := rfl
@[simp] theorem State.mode_at (now : Nat) : (s.at now).mode = s.mode := rfl
@[simp] theorem State.mode_emit (o : Output) : (s.emit o).mode = s.mode := rfl

end

end Sys2Proof.Machine
end

