-- ==== Sys2Proof/Laws/Ops.lean ====
section
/-! SUPPORT. For each shared operation, one lemma that says once everything it can do; proofs cite these and unfold nothing. -/

namespace Sys2Proof.Machine

open Host (Outcome)

/-! ### Time -/

/-- A timed operation goes on exactly when the time does not decrease. -/
theorem timed_next {now : Nat} {s t : State} {k : State → State} :
    timed now s k = .next t ↔ s.clock ≤ now ∧ t = k (s.at now) := by
  unfold timed
  split
  · simp; omega
  · simp only [Outcome.next.injEq]
    exact ⟨fun h => ⟨by omega, h.symm⟩, fun h => h.2.symm⟩

theorem timed_of_le {now : Nat} {s : State} (k : State → State) (h : s.clock ≤ now) :
    timed now s k = .next (k (s.at now)) := timed_next.2 ⟨h, rfl⟩

theorem timed_of_lt {now : Nat} {s : State} (k : State → State) (h : now < s.clock) :
    timed now s k = .refused .timeDecreased := by
  simp [timed, h]

/-! ### Receiving -/

theorem receive_next {raw : List Byte} {now : Nat} {s t : State} :
    receive raw now s = .next t ↔
      raw.length ≤ 8 ∧ s.clock ≤ now ∧ t = (s.at now).react (classify s.mode raw) raw now := by
  unfold receive
  split
  · simp; omega
  · rw [timed_next]
    constructor
    · rintro ⟨h, rfl⟩
      exact ⟨by omega, h, rfl⟩
    · rintro ⟨-, h, rfl⟩
      exact ⟨h, rfl⟩

/-- A row of the frame map: in its condition the row's own reaction, outside it that of the frame's class. -/
theorem asRow_next {holds : Bool} {b : Frame} {now : Nat} {s t : State} {k : State → State} :
    asRow holds b now s k = .next t ↔
      s.clock ≤ now ∧
        t = (if holds then k (s.at now)
          else (s.at now).react (classify s.mode (invFrame b).toList) (invFrame b).toList now) := by
  unfold asRow
  cases holds
  · simp [receive_next]
  · simp [timed_next]

theorem asDropped_next {holds : Bool} {raw : List Byte} {now : Nat} {s t : State}
    (hlen : holds = true → raw.length ≤ 8) :
    asDropped holds raw now s = .next t ↔
      raw.length ≤ 8 ∧ s.clock ≤ now ∧
        t = (if holds then s.at now else (s.at now).react (classify s.mode raw) raw now) := by
  unfold asDropped
  cases holds
  · simp [receive_next]
  · simp [timed_next, hlen rfl]

/-- The reaction of a class written out: everything receiving a group can do to the machine. -/
theorem react_eq (s : State) (c : FrameClass) (raw : List Byte) (now : Nat) :
    s.react c raw now =
      let b := invFrame (Frame.ofList raw)
      match c with
      | .unconnected | .short | .other => s
      | .statusCp1 => s.reactStatusCp1 b now
      | .statusCp0Pri => s.reactStatusCp0Pri b now
      | .statusCp0Sec => s.reactStatusCp0Sec b now
      | .login => s.reactLogin b now
      | .error => s.reactError b now
      | .reserved => s.reactReserved now
      | .observe => s.reactObserve b := by
  cases c <;> rfl

/-- The fields the reaction to any group leaves alone. -/
theorem react_frame (s : State) (c : FrameClass) (raw : List Byte) (now : Nat) :
    (s.react c raw now).params = s.params ∧ (s.react c raw now).clock = s.clock ∧
    (s.react c raw now).draws = s.draws ∧ (s.react c raw now).inbox = s.inbox ∧
    (s.react c raw now).S.connected = s.S.connected ∧
    (s.react c raw now).S.controllerIsPrimary = s.S.controllerIsPrimary ∧
    (s.react c raw now).S.controllerAddress = s.S.controllerAddress ∧
    (s.react c raw now).S.updateState = s.S.updateState := by
  cases c <;> exact ⟨rfl, rfl, rfl, rfl, rfl, rfl, rfl, rfl⟩

/-! ### Merging -/

/-- The fold of `APPLY_AND_CLEAR` over any list of fields, field by field. -/
theorem foldl_apply_body (S : Session) (l : List StageField) (R : ControlFrame) (g : BodyField) :
    ((l.foldl (fun R f => if isDirty S.updateFields f then
        R.setBody f.toBody (S.updateState.body f.toBody) else R) R).body g) =
      if ∃ f ∈ l, f.toBody = g ∧ isDirty S.updateFields f = true then S.updateState.body g
      else R.body g := by
  induction l generalizing R with
  | nil => simp
  | cons f l ih =>
    rw [List.foldl_cons, ih]
    by_cases hl : ∃ f ∈ l, f.toBody = g ∧ isDirty S.updateFields f = true
    · rw [if_pos hl, if_pos]
      obtain ⟨f', hf', h⟩ := hl
      exact ⟨f', List.mem_cons_of_mem _ hf', h⟩
    · rw [if_neg hl]
      by_cases hd : isDirty S.updateFields f = true
      · by_cases hg : f.toBody = g
        · subst hg
          rw [if_pos hd, if_pos ⟨f, List.mem_cons_self, rfl, hd⟩]
          simp
        · rw [if_pos hd, if_neg]
          · simp [hg]
          · rintro ⟨f', hf', h⟩
            rcases List.mem_cons.1 hf' with rfl | hm
            · exact hg h.1
            · exact hl ⟨f', hm, h⟩
      · rw [if_neg hd, if_neg]
        rintro ⟨f', hf', h⟩
        rcases List.mem_cons.1 hf' with rfl | hm
        · exact hd h.2
        · exact hl ⟨f', hm, h⟩

/-- The same fold leaves the header fields alone. -/
theorem foldl_apply_header (S : Session) (l : List StageField) (R : ControlFrame) :
    let R' := l.foldl (fun R f => if isDirty S.updateFields f then
        R.setBody f.toBody (S.updateState.body f.toBody) else R) R
    R'.messageSource = R.messageSource ∧ R'.messageDest = R.messageDest ∧
    R'.messageType = R.messageType ∧ R'.writeBit = R.writeBit ∧ R'.loginBit = R.loginBit ∧
    R'.unknownBit = R.unknownBit := by
  induction l generalizing R with
  | nil => simp
  | cons f l ih =>
    simp only [List.foldl_cons]
    have := ih (if isDirty S.updateFields f then
      R.setBody f.toBody (S.updateState.body f.toBody) else R)
    revert this
    split <;> simp

/-- No dirty flag is set exactly when the mask is zero. -/
theorem flags_eq_zero_iff (D : BitVec 7) : D = 0 ↔ ∀ f : StageField, isDirty D f = false := by
  constructor
  · rintro rfl f
    simp [isDirty]
  · intro h
    have h0 := h .onOff; have h1 := h .temperature; have h2 := h .acMode
    have h3 := h .fanMode; have h4 := h .swingMode; have h5 := h .swingStep
    have h6 := h .economyMode
    simp only [isDirty, dirtyIndex] at *
    apply BitVec.eq_of_getLsbD_eq
    intro i hi
    have : i = 0 ∨ i = 1 ∨ i = 2 ∨ i = 3 ∨ i = 4 ∨ i = 5 ∨ i = 6 := by omega
    rcases this with rfl | rfl | rfl | rfl | rfl | rfl | rfl <;> simp_all

theorem isDirty_setDirty (D : BitVec 7) (f g : StageField) :
    isDirty (setDirty D f) g = (isDirty D g || decide (g = f)) := by
  cases f <;> cases g <;> simp [isDirty, setDirty, dirtyIndex]

/-! ### Fetching -/

/-- Everything the fetch can find. -/
theorem fetch_cases (s : State) :
    (s.inbox = [] ∧ fetch s = .idle) ∨
    ∃ p rest, s.inbox = p :: rest ∧
      ((s.params.wf = false ∧ fetch s = .declined .illFormedParams) ∨
       (s.params.wf = true ∧
        ((∃ i, decode s.mode p = .ok i ∧ fetch s = .run i { s with inbox := rest }) ∨
         (∃ e, decode s.mode p = .rejected e ∧ fetch s = .declined (.malformed e))))) := by
  unfold fetch
  cases h : s.inbox with
  | nil => exact .inl ⟨rfl, rfl⟩
  | cons p rest =>
    refine .inr ⟨p, rest, rfl, ?_⟩
    cases hw : s.params.wf
    · exact .inl ⟨rfl, by simp⟩
    · refine .inr ⟨rfl, ?_⟩
      cases hd : decode s.mode p with
      | ok i => exact .inl ⟨i, rfl, by simp [hd]⟩
      | rejected e => exact .inr ⟨e, rfl, by simp [hd]⟩

end Sys2Proof.Machine
end

