-- ==== Sys2Proof/Laws/PerInstr.lean ====
section
/-! SUPPORT. One family of lemmas, one per operation: the event of a command carries the operands that 30_encoding.md R90
gives its code. -/

namespace Sys2Proof.Laws.OperandCounts

/-- The number of byte operands of a command (30_encoding.md R90), but for `RX_FRAME`, whose count is an operand itself. -/
def byteOperands (cmd : BitVec 5) : Nat :=
  match cmd.toNat with
  | 0x01 | 0x08 | 0x09 | 0x0A | 0x0B | 0x0C | 0x0D | 0x0E => 1
  | 0x1D | 0x1F => 8
  | 0x1E => 17
  | _ => 0

/-- The number of time operands of a command (30_encoding.md R90). -/
def timeOperands (cmd : BitVec 5) : Nat :=
  match cmd.toNat with
  | 0x03 | 0x04 | 0x18 | 0x1B => 1
  | 0x05 | 0x06 | 0x1A => 2
  | _ => 0

/-- Where the operation's event is a command, it carries the operands of the command's code. -/
def Statement (i : Instr) : Prop :=
  ∀ (c : BitVec 5) (bytes : List Byte) (times : List Nat), encode i = some (.command c bytes times) →
    times.length = timeOperands c ∧ (c ≠ 0x03 → bytes.length = byteOperands c)

/-- An operation no command stands for. -/
theorem of_not_command {i : Instr} (h : ∀ c bytes times, encode i ≠ some (.command c bytes times)) :
    Statement i := fun c bytes times he => absurd he (h c bytes times)

/-- An operation with a command of the right operands. -/
theorem of_command {i : Instr} {c : BitVec 5} {bytes : List Byte} {times : List Nat}
    (h : encode i = some (.command c bytes times)) (ht : times.length = timeOperands c)
    (hb : c ≠ 0x03 → bytes.length = byteOperands c) : Statement i := by
  intro c' bytes' times' h'
  rw [h] at h'
  cases h'
  exact ⟨ht, hb⟩

theorem frameDecode (b : Frame) : Statement (.frameDecode b) :=
  of_not_command nofun
theorem frameEncode (F : ControlFrame) : Statement (.frameEncode F) :=
  of_not_command nofun
theorem rxStatusCp1Primary (b : Frame) (now : Nat) : Statement (.rxStatusCp1Primary b now) :=
  of_not_command nofun
theorem rxStatusCp1Secondary (b : Frame) (now : Nat) : Statement (.rxStatusCp1Secondary b now) :=
  of_not_command nofun
theorem rxStatusCp0Pri (b : Frame) (now : Nat) : Statement (.rxStatusCp0Pri b now) :=
  of_not_command nofun
theorem rxStatusCp0Sec (b : Frame) (now : Nat) : Statement (.rxStatusCp0Sec b now) :=
  of_not_command nofun
theorem rxErrorPrimary (b : Frame) (now : Nat) : Statement (.rxErrorPrimary b now) :=
  of_not_command nofun
theorem rxErrorSecondary (b : Frame) (now : Nat) : Statement (.rxErrorSecondary b now) :=
  of_not_command nofun
theorem rxLoginPrimary (b : Frame) (now : Nat) : Statement (.rxLoginPrimary b now) :=
  of_not_command nofun
theorem rxLoginSecondary (b : Frame) (now : Nat) : Statement (.rxLoginSecondary b now) :=
  of_not_command nofun
theorem rxReservedPrimary (b : Frame) (now : Nat) : Statement (.rxReservedPrimary b now) :=
  of_not_command nofun
theorem rxReservedSecondary (b : Frame) (now : Nat) : Statement (.rxReservedSecondary b now) :=
  of_not_command nofun
theorem rxObserve (b : Frame) (now : Nat) : Statement (.rxObserve b now) :=
  of_not_command nofun
theorem rxOther (b : Frame) (now : Nat) : Statement (.rxOther b now) :=
  of_not_command nofun
theorem rxShort (raw : List Byte) (now : Nat) : Statement (.rxShort raw now) :=
  of_not_command nofun
theorem rxUnconnected (raw : List Byte) (now : Nat) : Statement (.rxUnconnected raw now) :=
  of_not_command nofun
theorem txStatusToUnitPrimary (b : Frame) : Statement (.txStatusToUnitPrimary b) :=
  of_not_command nofun
theorem txStatusToUnitSecondary (b : Frame) : Statement (.txStatusToUnitSecondary b) :=
  of_not_command nofun
theorem txStatusToSecondaryPrimary (b : Frame) : Statement (.txStatusToSecondaryPrimary b) :=
  of_not_command nofun
theorem txLoginToUnitPrimary (b : Frame) : Statement (.txLoginToUnitPrimary b) :=
  of_not_command nofun
theorem txStatusMagic2ToUnitSecondary (b : Frame) : Statement (.txStatusMagic2ToUnitSecondary b) :=
  of_not_command nofun
theorem txLoginEchoToSecondaryPrimary (b : Frame) : Statement (.txLoginEchoToSecondaryPrimary b) :=
  of_not_command nofun
theorem txLoginEchoToSecondarySecondary (b : Frame) : Statement (.txLoginEchoToSecondarySecondary b) :=
  of_not_command nofun
theorem connect (isSecondary : Bool) : Statement (.connect isSecondary) :=
  of_command rfl rfl fun _ => rfl
theorem reset : Statement .reset :=
  of_command rfl rfl fun _ => rfl
theorem rxFrame (raw : List Byte) (now : Nat) : Statement (.rxFrame raw now) :=
  of_command rfl rfl fun h => absurd rfl h
theorem txPoll (now : Nat) : Statement (.txPoll now) :=
  of_command rfl rfl fun _ => rfl
theorem timeoutPoll (now : Nat) (thresholdMs : Nat) : Statement (.timeoutPoll now thresholdMs) :=
  of_command rfl rfl fun _ => rfl
theorem tick (now : Nat) (thresholdMs : Nat) : Statement (.tick now thresholdMs) :=
  of_command rfl rfl fun _ => rfl
theorem setOnOff (v : Bool) : Statement (.setOnOff v) :=
  of_command rfl rfl fun _ => rfl
theorem setTemp (v : Byte) : Statement (.setTemp v) :=
  of_command rfl rfl fun _ => rfl
theorem setMode (v : Byte) : Statement (.setMode v) :=
  of_command rfl rfl fun _ => rfl
theorem setFanMode (v : Byte) : Statement (.setFanMode v) :=
  of_command rfl rfl fun _ => rfl
theorem setSwingMode (v : Byte) : Statement (.setSwingMode v) :=
  of_command rfl rfl fun _ => rfl
theorem setSwingStep (v : Byte) : Statement (.setSwingStep v) :=
  of_command rfl rfl fun _ => rfl
theorem setEconomyMode (v : Byte) : Statement (.setEconomyMode v) :=
  of_command rfl rfl fun _ => rfl
theorem getOnOff : Statement .getOnOff :=
  of_command rfl rfl fun _ => rfl
theorem getTemp : Statement .getTemp :=
  of_command rfl rfl fun _ => rfl
theorem getMode : Statement .getMode :=
  of_command rfl rfl fun _ => rfl
theorem getFanMode : Statement .getFanMode :=
  of_command rfl rfl fun _ => rfl
theorem getEconomyMode : Statement .getEconomyMode :=
  of_command rfl rfl fun _ => rfl
theorem getSwingMode : Statement .getSwingMode :=
  of_command rfl rfl fun _ => rfl
theorem getSwingStep : Statement .getSwingStep :=
  of_command rfl rfl fun _ => rfl
theorem getControllerTemp : Statement .getControllerTemp :=
  of_command rfl rfl fun _ => rfl
theorem isBound (now : Nat) : Statement (.isBound now) :=
  of_command rfl rfl fun _ => rfl
theorem updatePending : Statement .updatePending :=
  of_command rfl rfl fun _ => rfl
theorem isTimedOut (now : Nat) (thresholdMs : Nat) : Statement (.isTimedOut now thresholdMs) :=
  of_command rfl rfl fun _ => rfl
theorem readyToTransmit (now : Nat) : Statement (.readyToTransmit now) :=
  of_command rfl rfl fun _ => rfl
theorem phase : Statement .phase :=
  of_command rfl rfl fun _ => rfl
theorem cmdDecode (b : Frame) : Statement (.cmdDecode b) :=
  of_command rfl rfl fun _ => rfl
theorem cmdEncode (F : ControlFrame) : Statement (.cmdEncode F) :=
  of_command rfl rfl fun _ => rfl
theorem cmdInv (b : Frame) : Statement (.cmdInv b) :=
  of_command rfl rfl fun _ => rfl
theorem unassigned00 : Statement .unassigned00 :=
  of_command rfl rfl fun _ => rfl
theorem unassigned07 : Statement .unassigned07 :=
  of_command rfl rfl fun _ => rfl
theorem unassigned0F : Statement .unassigned0F :=
  of_command rfl rfl fun _ => rfl
theorem onFrameReceived (now : Nat) : Statement (.onFrameReceived now) :=
  of_not_command nofun
theorem applyAndClear (R : ControlFrame) : Statement (.applyAndClear R) :=
  of_not_command nofun
theorem stage (f : StageField) (v : Byte) : Statement (.stage f v) :=
  of_not_command nofun
theorem wireDecode (w : Frame) : Statement (.wireDecode w) :=
  of_not_command nofun
theorem wireEncode (F : ControlFrame) : Statement (.wireEncode F) :=
  of_not_command nofun

end Sys2Proof.Laws.OperandCounts
end

