-- ==== Sys2Proof/Laws/Reply.lean ====
section
/-! SUPPORT. The merge of staged values into a reply, said once field by field (43_session_fsm.md R171). -/

namespace Sys2Proof.Machine

/-- What `APPLY_AND_CLEAR` returns, in a stageable field (41_pending_update.md R124). -/
theorem applied_body_stageable (S : Session) (R : ControlFrame) (f : StageField) :
    (S.applied R).body f.toBody =
      if isDirty S.updateFields f then S.updateState.body f.toBody else R.body f.toBody := by
  unfold Session.applied
  rw [foldl_apply_body]
  by_cases h : isDirty S.updateFields f = true
  · rw [if_pos ⟨f, f.mem_all, rfl, h⟩, if_pos h]
  · rw [if_neg h, if_neg]
    rintro ⟨g, -, hg, hd⟩
    rw [StageField.toBody_injective hg] at hd
    exact h hd

/-- What `APPLY_AND_CLEAR` returns, in any other body field. -/
theorem applied_body_other (S : Session) (R : ControlFrame) (g : BodyField)
    (hg : ∀ f : StageField, f.toBody ≠ g) : (S.applied R).body g = R.body g := by
  unfold Session.applied
  rw [foldl_apply_body, if_neg]
  rintro ⟨f, -, hf, -⟩
  exact hg f hf

/-- What `APPLY_AND_CLEAR` returns, in the header fields. -/
theorem applied_header (S : Session) (R : ControlFrame) :
    (S.applied R).messageSource = R.messageSource ∧ (S.applied R).messageDest = R.messageDest ∧
    (S.applied R).messageType = R.messageType ∧ (S.applied R).writeBit = R.writeBit ∧
    (S.applied R).loginBit = R.loginBit ∧ (S.applied R).unknownBit = R.unknownBit :=
  foldl_apply_header S StageField.all R

/-- The merged reply, field by field. -/
theorem merged_isMerged (S : Session) (R : ControlFrame) : MergedReply S R (S.merged R) := by
  by_cases h : S.updateFields = 0
  · have hm : S.merged R = R := by simp [Session.merged, anyDirty, h]
    have hf := (flags_eq_zero_iff S.updateFields).1 h
    rw [hm]
    refine ⟨rfl, rfl, rfl, rfl, rfl, (if_pos h).symm, fun f => ?_, fun _ _ => rfl⟩
    rw [if_neg (by rw [hf f]; decide)]
  · have ha : anyDirty S.updateFields = true := bne_iff_ne.2 h
    have hm : S.merged R = S.applied { R with writeBit := 1 } := by simp [Session.merged, ha]
    obtain ⟨h1, h2, h3, h4, h5, h6⟩ := applied_header S { R with writeBit := 1 }
    rw [hm]
    refine ⟨h1, h2, h3, h5, h6, by rw [h4, if_neg h], fun f => ?_, fun g hg => ?_⟩
    · rw [applied_body_stageable]
      cases f <;> rfl
    · rw [applied_body_other S _ g hg]
      cases g <;> rfl

/-! ### Sequences of operations -/

@[simp] theorem runAll_nil (s : State) : runAll [] s = some s := rfl

/-- A list of operations leads to `u` exactly when its first answers a state from which the rest leads there. -/
theorem runAll_cons {i : Instr} {l : List Instr} {s u : State} :
    runAll (i :: l) s = some u ↔ ∃ t : State, exec i s = .next t ∧ runAll l t = some u := by
  rw [runAll]
  cases exec i s <;> simp

end Sys2Proof.Machine
end

