-- ==== Sys2Proof/Laws/Timed.lean ====
section
/-! SUPPORT. Each timed operation as what it does to the machine at its time, so that no proof unfolds its meaning; and when
each of the shared timer operations takes effect. -/

namespace Sys2Proof.Machine

open Host (Outcome)

theorem exec_onFrameReceived (now : Nat) (s : State) :
    exec (.onFrameReceived now) s = timed now s fun s => s.withS (s.S.onFrameReceived now) := rfl

theorem exec_readyToTransmit (now : Nat) (s : State) :
    exec (.readyToTransmit now) s = timed now s fun s => s.emit (.bit (s.S.ready s.params now)) := rfl

theorem exec_isBound (now : Nat) (s : State) :
    exec (.isBound now) s = timed now s fun s => s.isBound now := rfl

theorem exec_isTimedOut (now thresholdMs : Nat) (s : State) :
    exec (.isTimedOut now thresholdMs) s =
      timed now s fun s => s.emit (.bit (s.S.timedOut now thresholdMs)) := rfl

theorem exec_timeoutPoll (now thresholdMs : Nat) (s : State) :
    exec (.timeoutPoll now thresholdMs) s = timed now s fun s => s.timeoutPoll now thresholdMs := rfl

theorem exec_txPoll (now : Nat) (s : State) :
    exec (.txPoll now) s = timed now s fun s => s.txPoll now := rfl

theorem exec_tick (now thresholdMs : Nat) (s : State) :
    exec (.tick now thresholdMs) s =
      timed now s fun s => (s.txPoll now).timeoutPoll now thresholdMs := rfl

theorem exec_rxFrame (raw : List Byte) (now : Nat) (s : State) :
    exec (.rxFrame raw now) s = receive raw now s := rfl

/-! ### When a condition computed from time holds -/

theorem ready_iff (S : Session) (P : Params) (now : Nat) :
    S.ready P now = true ↔ S.pendingFrame = true ∧ P.guardMs ≤ now - S.lastFrameReceived := by
  rw [Session.ready, Bool.and_eq_true_iff, decide_eq_true_iff, Session.elapsed]

theorem timedOut_iff (S : Session) (now thresholdMs : Nat) :
    S.timedOut now thresholdMs = true ↔ thresholdMs ≤ now - S.lastFrameReceived := by
  rw [Session.timedOut, decide_eq_true_iff, Session.elapsed]

theorem bound_iff (S : Session) (P : Params) (now : Nat) :
    S.bound P now = true ↔ now - S.lastFrameReceived < P.boundMs := by
  rw [Session.bound, decide_eq_true_iff, Session.elapsed]

theorem boundUnspecified_iff (S : Session) (P : Params) (now : Nat) :
    S.boundUnspecified P now = true ↔ S.lastFrameReceived = 0 ∧ now < P.boundMs := by
  rw [Session.boundUnspecified, Bool.and_eq_true_iff, decide_eq_true_iff, decide_eq_true_iff]

/-! ### The shared timer operations leave the rest of the machine alone -/

theorem txPoll_frame (s : State) (now : Nat) :
    (s.txPoll now).params = s.params ∧ (s.txPoll now).clock = s.clock ∧
    (s.txPoll now).draws = s.draws ∧ (s.txPoll now).inbox = s.inbox ∧
    (s.txPoll now).S = { s.S with pendingFrame := (s.txPoll now).S.pendingFrame } := by
  unfold State.txPoll
  split <;> exact ⟨rfl, rfl, rfl, rfl, rfl⟩

theorem timeoutPoll_eq (s : State) (now thresholdMs : Nat) :
    s.timeoutPoll now thresholdMs =
      if thresholdMs ≤ now - s.S.lastFrameReceived then s.withS s.S.resetSession else s := by
  unfold State.timeoutPoll
  simp only [timedOut_iff]

theorem txPoll_eq (s : State) (now : Nat) :
    s.txPoll now =
      if s.S.pendingFrame = true ∧ s.params.guardMs ≤ now - s.S.lastFrameReceived then
        (s.withS s.S.sent).emit (.tx s.S.txBuf)
      else s := by
  unfold State.txPoll
  simp only [ready_iff]

end Sys2Proof.Machine
end

