-- ==== Sys2Proof/Tests/Slice0.lean ====
section
/-! SUPPORT. Tests: refusals of ill-formed operations, decodings of words written out from 30_encoding.md and the opcode table,
single steps whose expected results are those of 95_test_vectors.md (named in each comment), and for every statement with
hypotheses a concrete case that meets them all. Frames are written as the 16 hexadecimal digits of their 64-bit form (R75). -/

namespace Sys2Proof.Tests

open Sys2Proof.Machine

/-! ### Helpers -/

/-- The state an operation leads to. -/
def after (i : Instr) (s : State) : State :=
  match exec i s with
  | .next t => t
  | .fault f => nomatch f
  | .refused _ => s

/-- The operation leads to a next state. -/
def completes (i : Instr) (s : State) : Bool :=
  match exec i s with
  | .next _ => true
  | .fault f => nomatch f
  | .refused _ => false

theorem next_after {i : Instr} {s : State} (h : completes i s = true) : exec i s = .next (after i s) := by
  unfold completes at h
  unfold after
  cases he : exec i s with
  | next t => rfl
  | fault f => nomatch f
  | refused r => rw [he] at h; exact nomatch h

/-- A logical frame from its number form. -/
def frame (w : Nat) : Frame := Frame.ofNat64 w

/-- The wire bytes of a logical frame. -/
def wire (w : Nat) : List Byte := (invFrame (frame w)).toList

/-- A PRIMARY block just connected. -/
def primary : State := after (.connect false) State.reset

/-- A SECONDARY block just connected. -/
def secondary : State := after (.connect true) State.reset

/-- The PRIMARY block of the vectors V-F*: `cur = (on=0, temp=22, mode=3, fan=2)`. -/
def serving : State :=
  primary.withS { primary.S with
    currentState := { ControlFrame.zero with temperature := 22, acMode := 3, fanMode := 2 } }

/-- A PRIMARY block with a reply queued by a frame at 1400 (Program 1 after event 5). -/
def queued : State := after (.rxFrame (wire 0x0120002718000100) 1400) primary

/-- Modes of instance P0. -/
def modePri : Mode := primary.mode
def modeSec : Mode := secondary.mode
def modeOff : Mode := State.reset.mode

/-! ### Ill-formed operations are refused -/

theorem test_wf_params : Config.p0.wf = true ∧ Config.p1.wf = true := by decide
theorem test_illformed_params_overlap :
    ({ Config.p0 with layout := { Config.layoutP0 with onOff := ⟨3, 0x02, 1⟩ } } : Params).wf = false := by decide
theorem test_illformed_params_gap :
    ({ Config.p0 with layout := { Config.layoutP0 with controllerTemp := ⟨7, 0x05, 0⟩ } } : Params).wf = false := by
  decide
theorem test_illformed_params_bit5 : ({ Config.p0 with addrUnit := 0x21 } : Params).wf = false := by decide
theorem test_illformed_params_types : ({ Config.p0 with mtLogin := 0 } : Params).wf = false := by decide

theorem test_illformed_status_cp1 :
    (Instr.rxStatusCp1Primary (frame 0x0120002718000000) 0).wf modePri = false ∧
    (Instr.rxStatusCp1Primary (frame 0x0121002718000100) 0).wf modeSec = false ∧
    (Instr.rxStatusCp1Secondary (frame 0x0120002718000100) 0).wf modePri = false := by decide
theorem test_illformed_status_cp0 :
    (Instr.rxStatusCp0Pri (frame 0x0120002718000100) 0).wf modePri = false ∧
    (Instr.rxStatusCp0Sec (frame 0x0121001915000100) 0).wf modeSec = false := by decide
theorem test_illformed_types :
    (Instr.rxErrorPrimary (frame 0x0120200000000000) 0).wf modePri = false ∧
    (Instr.rxErrorSecondary (frame 0x0121200000000000) 0).wf modeSec = false ∧
    (Instr.rxLoginPrimary (frame 0x0120100000000000) 0).wf modePri = false ∧
    (Instr.rxLoginSecondary (frame 0x0121100000000000) 0).wf modeSec = false ∧
    (Instr.rxReservedPrimary (frame 0x0120000000000000) 0).wf modePri = false ∧
    (Instr.rxReservedSecondary (frame 0x0121000000000000) 0).wf modeSec = false := by decide
theorem test_illformed_observe_other :
    (Instr.rxObserve (frame 0x0121000000000000) 0).wf modeSec = false ∧
    (Instr.rxOther (frame 0x0121000000000000) 0).wf modePri = false := by decide
theorem test_illformed_short_unconnected :
    (Instr.rxShort (wire 0x0120002718000100) 0).wf modePri = false ∧
    (Instr.rxShort [] 0).wf modeOff = false ∧
    (Instr.rxUnconnected [] 0).wf modePri = false ∧
    (Instr.rxUnconnected [0, 0, 0, 0, 0, 0, 0, 0, 0] 0).wf modeOff = false := by decide
theorem test_illformed_group : (Instr.rxFrame [0, 0, 0, 0, 0, 0, 0, 0, 0] 0).wf modePri = false := by decide
theorem test_illformed_replies :
    (Instr.txStatusToUnitPrimary (frame 0x2181002718000100)).wf modePri = false ∧
    (Instr.txStatusToUnitSecondary (frame 0x2181001915200100)).wf modePri = false ∧
    (Instr.txStatusToSecondaryPrimary (frame 0x20A1002616000100)).wf modePri = false ∧
    (Instr.txLoginToUnitPrimary (frame 0x2081000000000000)).wf modePri = false ∧
    (Instr.txLoginToUnitPrimary (frame 0x2081208000000000)).wf modePri = false ∧
    (Instr.txStatusMagic2ToUnitSecondary (frame 0x2181001915000100)).wf modePri = false ∧
    (Instr.txLoginEchoToSecondaryPrimary (frame 0x20A1282696000B00)).wf modePri = false ∧
    (Instr.txLoginEchoToSecondarySecondary (frame 0x21A1200115080100)).wf modePri = false := by decide

/-! ### Decoding: words written out from the encodings -/

/-- 30_encoding.md R90: CONNECT to TICK, and the unassigned 0x00 and 0x07. -/
theorem test_decode_session_commands :
    decodeTableWord 8 0b00000 = some .unassigned00 ∧ decodeTableWord 8 0b00010 = some .reset ∧
    decodeTableWord 8 0b00011 = some (.rxFrame [] 0) ∧ decodeTableWord 8 0b00100 = some (.txPoll 0) ∧
    decodeTableWord 8 0b00101 = some (.timeoutPoll 0 0) ∧
    decodeTableWord 8 0b00111 = some .unassigned07 := by decide
/-- R90: the setters, and the unassigned 0x0F. -/
theorem test_decode_setters :
    decodeTableWord 8 0b01000 = some (.setOnOff false) ∧ decodeTableWord 8 0b01001 = some (.setTemp 0) ∧
    decodeTableWord 8 0b01010 = some (.setMode 0) ∧ decodeTableWord 8 0b01011 = some (.setFanMode 0) ∧
    decodeTableWord 8 0b01100 = some (.setSwingMode 0) ∧
    decodeTableWord 8 0b01101 = some (.setSwingStep 0) ∧
    decodeTableWord 8 0b01110 = some (.setEconomyMode 0) ∧
    decodeTableWord 8 0b01111 = some .unassigned0F := by decide
/-- R90: the getters but GET_CONTROLLERTEMP, which a statement names. -/
theorem test_decode_getters :
    decodeTableWord 8 0b10000 = some .getOnOff ∧ decodeTableWord 8 0b10001 = some .getTemp ∧
    decodeTableWord 8 0b10010 = some .getMode ∧ decodeTableWord 8 0b10011 = some .getFanMode ∧
    decodeTableWord 8 0b10100 = some .getEconomyMode ∧ decodeTableWord 8 0b10101 = some .getSwingMode ∧
    decodeTableWord 8 0b10110 = some .getSwingStep := by decide
/-- R90: the status reads and the codec commands. -/
theorem test_decode_status_codec :
    decodeTableWord 8 0b11000 = some (.isBound 0) ∧ decodeTableWord 8 0b11001 = some .updatePending ∧
    decodeTableWord 8 0b11010 = some (.isTimedOut 0 0) ∧
    decodeTableWord 8 0b11011 = some (.readyToTransmit 0) ∧
    decodeTableWord 8 0b11101 = some (.cmdDecode Frame.zero) ∧
    decodeTableWord 8 0b11110 = some (.cmdEncode ControlFrame.zero) ∧
    decodeTableWord 8 0b11111 = some (.cmdInv Frame.zero) := by decide
/-- R90: operands are read in the order of the table. -/
theorem test_decode_operands :
    decode modePri (.command 0b00101 [] [5500, 2000]) = .ok (.timeoutPoll 5500 2000) ∧
    decode modePri (.command 0b00011 [2, 0xDF, 0xFE] [7]) = .ok (.rxFrame [0xDF, 0xFE] 7) ∧
    decode modePri (.command 0b00001 [1] []) = .ok (.connect true) ∧
    decode modePri (.command 0b01001 [200] []) = .ok (.setTemp 200) := by decide
/-- A packet without the operands of R90 is rejected by name. -/
theorem test_decode_rejects :
    decode modePri (.command 0b00011 [2, 0xDF] [7]) = .rejected .groupCount ∧
    decode modePri (.command 0b00001 [2] []) = .rejected .bitOperand ∧
    decode modePri (.command 0b00100 [] []) = .rejected .timeOperands ∧
    decode modePri (.command 0b01001 [] []) = .rejected .byteOperands ∧
    decode modePri (.group [0, 0, 0, 0, 0, 0, 0, 0, 0] 7) = .rejected .groupTooLong := by decide
/-- R87, PRIMARY role: byte 1 = 0b0100000, type in bits 5..4 of byte 2, `controllerPresent` bit 0 of byte 6. -/
theorem test_decode_rows_primary :
    decode modePri (.group (wire 0x0120002718000100) 1) = .ok (.rxStatusCp1Primary (frame 0x0120002718000100) 1) ∧
    decode modePri (.group (wire 0x0120002718000000) 1) = .ok (.rxStatusCp0Pri (frame 0x0120002718000000) 1) ∧
    decode modePri (.group (wire 0x0120108000000000) 1) = .ok (.rxErrorPrimary (frame 0x0120108000000000) 1) ∧
    decode modePri (.group (wire 0x012020499E000A00) 1) = .ok (.rxLoginPrimary (frame 0x012020499E000A00) 1) ∧
    decode modePri (.group (wire 0x0120300000000000) 1) = .ok (.rxReservedPrimary (frame 0x0120300000000000) 1) ∧
    decode modePri (.group (wire 0x0121000000002E00) 1) = .ok (.rxObserve (frame 0x0121000000002E00) 1) ∧
    decode modePri (.group (wire 0x2001000000000000) 1) = .ok (.rxOther (frame 0x2001000000000000) 1) := by decide
/-- R87, SECONDARY role: byte 1 = 0b0100001. -/
theorem test_decode_rows_secondary :
    decode modeSec (.group (wire 0x0121001915000100) 1) = .ok (.rxStatusCp1Secondary (frame 0x0121001915000100) 1) ∧
    decode modeSec (.group (wire 0x0121001915000000) 1) = .ok (.rxStatusCp0Sec (frame 0x0121001915000000) 1) ∧
    decode modeSec (.group (wire 0x0121100000000000) 1) = .ok (.rxErrorSecondary (frame 0x0121100000000000) 1) ∧
    decode modeSec (.group (wire 0x0121200000000000) 1) = .ok (.rxLoginSecondary (frame 0x0121200000000000) 1) ∧
    decode modeSec (.group (wire 0x0121300000000000) 1) = .ok (.rxReservedSecondary (frame 0x0121300000000000) 1) ∧
    decode modeSec (.group (wire 0x0120000000000100) 1) = .ok (.rxOther (frame 0x0120000000000100) 1) := by decide
/-- R86: short and unconnected groups, and the codec alone. -/
theorem test_decode_other_rows :
    decode modePri (.group [0xDF, 0xFE] 1) = .ok (.rxShort [0xDF, 0xFE] 1) ∧
    decode modeOff (.group [0xDF, 0xFE] 1) = .ok (.rxUnconnected [0xDF, 0xFE] 1) ∧
    decode modeOff (.codecBytes (frame 0x0120002718000100)) = .ok (.frameDecode (frame 0x0120002718000100)) ∧
    decode modeOff (.codecRecord ControlFrame.zero) = .ok (.frameEncode ControlFrame.zero) := by decide
/-- Opcode table, format TXREPLY64: the replies of V-F3, Program 4 event 7, V-F4, V-F1, V-F5, V-F6, V-F14; no reply has a reserved
bit set, and no login frame to the unit has `acError` 1 (43_session_fsm.md R177). -/
theorem test_decode_replies :
    decodeReply Config.p0 (frame 0x2081002718000100) = some (.txStatusToUnitPrimary (frame 0x2081002718000100)) ∧
    decodeReply Config.p0 (frame 0x2181001915000100) = some (.txStatusToUnitSecondary (frame 0x2181001915000100)) ∧
    decodeReply Config.p0 (frame 0x20A1002616000000) =
      some (.txStatusToSecondaryPrimary (frame 0x20A1002616000000)) ∧
    decodeReply Config.p0 (frame 0x2081200000000000) = some (.txLoginToUnitPrimary (frame 0x2081200000000000)) ∧
    decodeReply Config.p0 (frame 0x2181001915200100) =
      some (.txStatusMagic2ToUnitSecondary (frame 0x2181001915200100)) ∧
    decodeReply Config.p0 (frame 0x20A1202696000B00) =
      some (.txLoginEchoToSecondaryPrimary (frame 0x20A1202696000B00)) ∧
    decodeReply Config.p0 (frame 0x21A1200115000100) =
      some (.txLoginEchoToSecondarySecondary (frame 0x21A1200115000100)) ∧
    decodeReply Config.p0 (frame 0x2081002718000101) = none ∧
    decodeReply Config.p0 (frame 0x2081208000000000) = none := by decide
/-- 30_encoding.md R91: no event reaches an internal operation. -/
theorem test_internal_operations_have_no_event :
    encode (.onFrameReceived 5) = none ∧ encode (.applyAndClear ControlFrame.zero) = none ∧
    encode (.stage .onOff 1) = none ∧ encode (.wireDecode Frame.zero) = none ∧
    encode (.wireEncode ControlFrame.zero) = none := by decide
/-- The first step after a word of the table has been placed runs it (CONNECT, code 0x01, and a frame row). -/
theorem test_step_runs_placed_word :
    (match step (State.reset.withFetchWord 8 0b00001) with
      | .next t => t == primary
      | .fault f => nomatch f
      | .refused _ => false) = true ∧
    (match step (State.reset.withFetchWord 64 0x0120002718000100) with
      | .next t => t.S.controllerLoggedIn && t.S.pendingFrame
      | .fault f => nomatch f
      | .refused _ => false) = true := by decide

/-! ### Codec vectors (95_test_vectors.md section 2) -/

/-- V-C2, both directions. -/
def recordC2 : ControlFrame :=
  { ControlFrame.zero with
    messageSource := 171, messageDest := 85, unknownBit := 1, messageType := 2, writeBit := 1, onOff := 1
    acMode := 5, fanMode := 6, acError := 1, temperature := 85, economyMode := 1, swingStep := 1
    updateMagic := 10, controllerTemp := 42 }
theorem test_encode_C2 : (after (.cmdEncode recordC2) primary).outbox = [.bytes (frame 0xABD528EBD5A25400)] := by
  decide
theorem test_frame_encode_C2 :
    (after (.frameEncode recordC2) primary).outbox = [.bytes (frame 0xABD528EBD5A25400)] := by decide
theorem test_decode_C2 : (after (.cmdDecode (frame 0xABD528EBD5A25400)) primary).outbox = [.record recordC2] := by
  decide
theorem test_wire_encode_C2 : (after (.wireEncode recordC2) primary).outbox = [.bytes (frame 0x542AD7142A5DABFF)] := by
  decide
/-- V-C12: on a record that is not canonical `loginBit` wins. -/
theorem test_encode_C12 :
    (after (.cmdEncode { ControlFrame.zero with messageDest := 1, loginBit := 1 }) primary).outbox =
      [.bytes (frame 0x0021000000000000)] := by decide
/-- V-C4 and V-C8 (source and controllerTemp of the latter). -/
theorem test_frame_decode_C4 : (after (.frameDecode Frame.zero) primary).outbox = [.record ControlFrame.zero] := by
  decide
theorem test_decode_C8 :
    (decodeFrame Config.layoutP0 (frame 0x123456789ABCDEF0)).updateMagic = 11 ∧
    (decodeFrame Config.layoutP0 (frame 0x123456789ABCDEF0)).controllerTemp = 47 := by decide
/-- V-C9. -/
theorem test_inv_C9 :
    (after (.cmdInv (frame 0x0120002718000100)) primary).outbox = [.bytes (frame 0xFEDFFFD8E7FFFEFF)] := by decide
/-- V-C10. -/
theorem test_wire_decode_C10 :
    (after (.wireDecode (frame 0xFFFFFFFFFFFFFFFF)) primary).outbox = [.record ControlFrame.zero] := by decide

/-! ### Pending updates (95_test_vectors.md, V-P*) -/

/-- V-P1. -/
theorem test_set_temp_twice :
    (after (.setTemp 22) (after (.setTemp 20) primary)).S.updateState.temperature = 22 ∧
    (after (.setTemp 22) (after (.setTemp 20) primary)).S.updateFields = 0b0000010 := by decide
/-- V-P2, V-P3, V-P4: truncation. -/
theorem test_set_temp_truncates : (after (.setTemp 200) primary).S.updateState.temperature = 72 := by decide
theorem test_set_mode_truncates :
    (after (.setMode 9) primary).S.updateState.acMode = 1 ∧
    (after (.setMode 9) primary).S.updateFields = 0b0000100 := by decide
theorem test_set_swing_mode_truncates :
    (after (.setSwingMode 3) primary).S.updateState.swingMode = 1 ∧
    (after (.setSwingMode 3) primary).S.updateFields = 0b0010000 := by decide
/-- 41_pending_update.md R125, R128, R130, R131, examples. -/
theorem test_set_onoff :
    (after (.setOnOff true) primary).S.updateState.onOff = 1 ∧
    (after (.setOnOff true) primary).S.updateFields = 0b0000001 := by decide
theorem test_set_fan_mode :
    (after (.setFanMode 4) primary).S.updateState.fanMode = 4 ∧
    (after (.setFanMode 4) primary).S.updateFields = 0b0001000 := by decide
theorem test_set_swing_step :
    (after (.setSwingStep 1) primary).S.updateState.swingStep = 1 ∧
    (after (.setSwingStep 1) primary).S.updateFields = 0b0100000 := by decide
theorem test_set_economy_mode :
    (after (.setEconomyMode 1) primary).S.updateState.economyMode = 1 ∧
    (after (.setEconomyMode 1) primary).S.updateFields = 0b1000000 := by decide
theorem test_stage : (after (.stage .temperature 22) primary).S.updateState.temperature = 22 := by decide
/-- V-P1. -/
theorem test_update_pending :
    (after .updatePending (after (.setTemp 20) primary)).outbox = [.bit true] ∧
    (after .updatePending primary).outbox = [.bit false] := by decide
/-- 41_pending_update.md R124, example. -/
theorem test_apply_and_clear :
    let s := after (.applyAndClear { ControlFrame.zero with onOff := 1, temperature := 24, acMode := 3, fanMode := 2 })
      (after (.setTemp 22) (after (.setOnOff false) primary))
    s.outbox = [.record { ControlFrame.zero with onOff := 0, temperature := 22, acMode := 3, fanMode := 2 }] ∧
    s.S.updateFields = 0 := by decide

/-! ### Timer (95_test_vectors.md, V-T*) -/

theorem test_on_frame_received : (after (.onFrameReceived 1400) primary).S.lastFrameReceived = 1400 := by decide
/-- V-T1 in the state of Program 1 (reply queued at 1400). -/
theorem test_ready_at_guard :
    (after (.readyToTransmit 1449) queued).outbox = [.bit false] ∧
    (after (.readyToTransmit 1450) queued).outbox = [.bit true] := by decide
/-- V-T3. -/
theorem test_is_bound_T3 :
    (after (.isBound 2399) queued).outbox = [.bit true] ∧
    (after (.isBound 2400) queued).outbox = [.bit false] := by decide
/-- V-T8. -/
theorem test_is_bound_T8 : (after (.isBound 1000) primary).outbox = [.bit false] := by decide
/-- V-T6. -/
theorem test_is_timed_out_T6 :
    (after (.isTimedOut 1999 2000) primary).outbox = [.bit false] ∧
    (after (.isTimedOut 2000 2000) primary).outbox = [.bit true] := by decide
/-- Program 3, events 11 and 12, from the state of Program 1. -/
theorem test_timeout_poll :
    (after (.timeoutPoll 3399 2000) queued).S.lastFrameReceived = 1400 ∧
    (after (.timeoutPoll 3400 2000) queued).S.lastFrameReceived = 0 := by decide
/-- Program 1, event 5, and 42_transport_timer.md R145, example. -/
theorem test_tx_poll_early : after (.txPoll 1449) queued = { queued with clock := 1449 } := by decide
theorem test_tx_poll_at_guard :
    (after (.txPoll 1450) queued).outbox = [.tx (frame 0xDF7EFFD8E7FFFEFF)] ∧
    (after (.txPoll 1450) queued).S.pendingFrame = false := by decide
/-- V-T9. -/
theorem test_tick_T9 :
    (after (.tick 1450 2000) queued).outbox = [.tx (frame 0xDF7EFFD8E7FFFEFF)] ∧
    (after (.tick 1450 2000) queued).S.lastFrameReceived = 1400 := by decide
/-- A tick past the threshold sends first, then resets (R146, D20). -/
theorem test_tick_sends_then_resets :
    (after (.tick 3400 2000) queued).outbox = [.tx (frame 0xDF7EFFD8E7FFFEFF)] ∧
    (after (.tick 3400 2000) queued).S.controllerLoggedIn = false := by decide

/-! ### Session (95_test_vectors.md, V-F* and the programs) -/

/-- 43_session_fsm.md R193, example. -/
theorem test_connect :
    primary.S.controllerAddress = 32 ∧ primary.S.phase = .awaitingFirstContact ∧
    secondary.S.controllerAddress = 33 := by decide
/-- V-H2. -/
theorem test_reset_keeps_queue :
    (after .reset queued).S.pendingFrame = true ∧ (after .reset queued).S.lastFrameReceived = 0 := by decide
/-- V-F1. -/
theorem test_rx_status_cp0_pri_F1 :
    let s := after (.rxStatusCp0Pri (frame 0x0120002718000000) 1000) serving
    invFrame s.S.txBuf = frame 0x2081200000000000 ∧ s.S.currentState.temperature = 0 ∧
    s.S.controllerLoggedIn = false := by decide
/-- V-F2. -/
theorem test_rx_status_cp0_pri_F2 :
    let s := after (.rxStatusCp0Pri (frame 0x0120002718000000) 1000) (after (.setTemp 22) serving)
    invFrame s.S.txBuf = frame 0x2081280016000000 ∧ s.S.updateFields = 0 := by decide
/-- V-F3. -/
theorem test_rx_status_cp1_primary_F3 :
    let s := after (.rxStatusCp1Primary (frame 0x0120002718000100) 1400) serving
    s.S.txBuf = frame 0xDF7EFFD8E7FFFEFF ∧ s.S.controllerLoggedIn = true ∧
    s.S.phase = .boundPrimaryNoSecondary := by decide
/-- V-F4. -/
theorem test_rx_status_cp1_primary_F4 :
    let s := after (.rxStatusCp1Primary (frame 0x0120002616000100) 2600)
      (after (.rxObserve (frame 0x0121000000002E00) 2200) serving)
    invFrame s.S.txBuf = frame 0x20A1002616000000 ∧ s.S.currentState.controllerTemp = 0 := by decide
/-- V-F5. -/
theorem test_rx_status_cp0_sec_F5 :
    let s := after (.rxStatusCp0Sec (frame 0x0121001915000000) 500) secondary
    invFrame s.S.txBuf = frame 0x2181001915200100 ∧ s.S.controllerLoggedIn = false := by decide
/-- Program 4, event 5. -/
theorem test_rx_status_cp0_sec_merges :
    let s := after (.rxStatusCp0Sec (frame 0x0121001915000000) 900)
      (after (.setEconomyMode 1) (after (.setFanMode 4) secondary))
    invFrame s.S.txBuf = frame 0x2181084995200100 ∧ s.S.updateFields = 0 := by decide
/-- Program 4, event 7. -/
theorem test_rx_status_cp1_secondary :
    let s := after (.rxStatusCp1Secondary (frame 0x0121001915000100) 1300) secondary
    invFrame s.S.txBuf = frame 0x2181001915000100 ∧ s.S.phase = .boundSecondary := by decide
/-- V-F6. -/
theorem test_rx_login_primary_F6 :
    let s := after (.rxLoginPrimary (frame 0x012020499E000A00) 3000) (after (.setTemp 30) serving)
    invFrame s.S.txBuf = frame 0x20A1202696000B00 ∧ s.S.currentState = serving.S.currentState ∧
    s.S.updateFields = 0b0000010 := by decide
/-- V-F14. -/
theorem test_rx_login_secondary_F14 :
    let s := after (.rxLoginSecondary (frame 0x0121200000000000) 3000)
      (secondary.withS { secondary.S with currentState := { ControlFrame.zero with onOff := 1, temperature := 21 } })
    invFrame s.S.txBuf = frame 0x21A1200115000100 := by decide
/-- V-F7. -/
theorem test_rx_error_primary_F7 :
    after (.rxErrorPrimary (frame 0x0120108000000000) 3400) serving =
      { serving with
        clock := 3400
        S := { serving.S with lastFrameReceived := 3400 }
        outbox := [.log { ControlFrame.zero with
          messageSource := 1, messageDest := 32, loginBit := 1, messageType := 1, acError := 1 }] } := by decide
theorem test_rx_error_secondary :
    (after (.rxErrorSecondary (frame 0x0121108000000000) 3400) secondary).S.lastFrameReceived = 3400 ∧
    (after (.rxErrorSecondary (frame 0x0121108000000000) 3400) secondary).outbox.length = 1 := by decide
/-- V-F9. -/
theorem test_rx_reserved_primary_F9 :
    after (.rxReservedPrimary (frame 0x0120300000000000) 3500) serving =
      { serving with clock := 3500, S := { serving.S with lastFrameReceived := 3500 } } := by decide
theorem test_rx_reserved_secondary :
    after (.rxReservedSecondary (frame 0x0121300000000000) 3500) secondary =
      { secondary with clock := 3500, S := { secondary.S with lastFrameReceived := 3500 } } := by decide
/-- V-F10. -/
theorem test_rx_observe_F10 :
    let s := after (.rxObserve (frame 0x0121000000002E00) 2200) serving
    s.S.seenSecondaryController = true ∧ s.S.currentState.controllerTemp = 23 ∧
    s.S.lastFrameReceived = 0 ∧ s.S.pendingFrame = false := by decide
/-- V-F8. -/
theorem test_rx_other_F8 :
    after (.rxOther (frame 0x2001000000000000) 3600) serving = { serving with clock := 3600 } := by decide
/-- V-F12: a frame to the PRIMARY, seen by a SECONDARY. -/
theorem test_rx_other_F12 :
    after (.rxOther (frame 0x0120000000000100) 3600) secondary = { secondary with clock := 3600 } := by decide
/-- V-F11. -/
theorem test_rx_short_F11 :
    after (.rxShort [0xDF, 0xFE, 0xFF, 0xFF, 0xFF, 0xFF, 0xFF] 3700) serving = { serving with clock := 3700 } := by
  decide
/-- V-P5: before CONNECT a full frame is dropped. -/
theorem test_rx_unconnected :
    after (.rxUnconnected (wire 0x0120002718000100) 10) State.reset = { State.reset with clock := 10 } := by decide
/-- V-P5: RX_FRAME merges everything staged before CONNECT. -/
theorem test_rx_frame_P5 :
    let s := after (.rxFrame (wire 0x0120002718000100) 1000) (after (.connect false)
      (after (.setSwingMode 3) (after (.setTemp 200) (after (.setMode 9) State.reset))))
    s.S.txBuf = frame 0xDF7EF7DCB7FBFEFF ∧ s.S.updateFields = 0 := by decide
/-- 43_session_fsm.md R177, fourth column. -/
theorem test_tx_magic2 :
    (after (.txStatusMagic2ToUnitSecondary (frame 0x0121001915000000)) secondary).S.txBuf =
      frame 0xDE7EFFE6EADFFEFF := by decide
/-- R177, the other columns (the replies of V-F3, Program 4 event 7, V-F4, V-F1). -/
theorem test_tx_status_shapes :
    (after (.txStatusToUnitPrimary (frame 0x0120002718000100)) serving).S.txBuf = frame 0xDF7EFFD8E7FFFEFF ∧
    (after (.txStatusToUnitSecondary (frame 0x0121001915000100)) secondary).S.txBuf =
      frame 0xDE7EFFE6EAFFFEFF ∧
    (after (.txStatusToSecondaryPrimary (frame 0x0120002616000100)) serving).S.txBuf =
      frame 0xDF5EFFD9E9FFFFFF ∧
    (after (.txLoginToUnitPrimary (frame 0x0120002718000000)) serving).S.txBuf =
      frame 0xDF7EDFFFFFFFFFFF := by decide
/-- R177, last column (the replies of V-F6 and V-F14). -/
theorem test_tx_echo_shapes :
    (after (.txLoginEchoToSecondaryPrimary (frame 0x012020499E000A00)) serving).S.txBuf =
      frame 0xDF5EDFD969FFF4FF ∧
    (after (.txLoginEchoToSecondarySecondary (frame 0x0121200000000000)) secondary).S.txBuf =
      invFrame (frame 0x21A1200000000100) := by decide
/-- Program 1, events 7: the getters after the first steady-state exchange. -/
theorem test_getters :
    (after .getOnOff queued).outbox = [.value 1] ∧ (after .getTemp queued).outbox = [.value 24] ∧
    (after .getMode queued).outbox = [.value 3] ∧ (after .getFanMode queued).outbox = [.value 2] ∧
    (after .getEconomyMode queued).outbox = [.value 0] ∧ (after .getSwingMode queued).outbox = [.value 0] ∧
    (after .getSwingStep queued).outbox = [.value 0] := by decide
/-- Program 3, event 1. -/
theorem test_get_controller_temp :
    (after .getControllerTemp (after (.rxObserve (frame 0x0121000000002E00) 2200) serving)).outbox = [.value 23] := by
  decide
/-- Program 1, end state. -/
theorem test_phase : (after .phase queued).outbox = [.label .boundPrimaryNoSecondary] := by decide
theorem test_unassigned :
    after .unassigned00 queued = queued ∧ after .unassigned07 queued = queued ∧
    after .unassigned0F queued = queued := by decide

/-! ### The hypotheses of the statements can be met -/

/-- A well-formed layout, and a canonical and a non-canonical record that fit it. -/
theorem witness_EncodeAnswersTheClosedForm : primary.params.layout.wf = true := by decide
theorem witness_RecordRoundTrip :
    Config.layoutP0.wf = true ∧ (decodeFrame Config.layoutP0 (frame 0xABD528EBD5A25400)).fits Config.layoutP0 = true ∧
    (decodeFrame Config.layoutP0 (frame 0xABD528EBD5A25400)).canonical = true ∧
    ({ ControlFrame.zero with messageDest := 32 } : ControlFrame).fits Config.layoutP0 = true ∧
    ({ ControlFrame.zero with messageDest := 32 } : ControlFrame).canonical = false := by decide
theorem witness_ByteRoundTrip :
    Config.layoutP0.wf = true ∧ 3 ≤ (3 : Fin 8).val ∧ 3 ≤ (7 : Fin 8).val ∧
    (fieldMask Config.layoutP0 5).getLsbD 7 = true ∧ (fieldMask Config.layoutP0 5).getLsbD 0 = false := by decide
theorem witness_WireRoundTrip :
    Config.layoutP0.wf = true ∧ recordC2.fits Config.layoutP0 = true ∧ recordC2.canonical = true := by decide
theorem witness_EncodeInjectiveDecodeNot :
    Config.layoutP0.wf = true ∧ recordC2.fits Config.layoutP0 = true ∧ recordC2.canonical = true ∧
    encodeFrame Config.layoutP0 recordC2 = encodeFrame Config.layoutP0 recordC2 := by decide
theorem witness_WireOperationsInvertOnce :
    ∀ i : Fin 8, (frame 0x0120002718000100).get i = (frame 0xFEDFFFD8E7FFFEFF).get i ^^^ 0xFF := by decide
theorem witness_StagingWritesOneFieldAndItsFlag :
    stagedBy (.setTemp 200) = some (.temperature, 200) ∧ stagedBy (.setOnOff true) = some (.onOff, 1) ∧
    stagedBy (.setMode 0) = some (.acMode, 0) ∧ stagedBy (.setFanMode 255) = some (.fanMode, 255) ∧
    stagedBy (.setSwingMode 1) = some (.swingMode, 1) ∧ stagedBy (.setSwingStep 1) = some (.swingStep, 1) ∧
    stagedBy (.setEconomyMode 1) = some (.economyMode, 1) ∧
    stagedBy (.stage .onOff 2) = some (.onOff, 2) := by decide
theorem witness_OnFrameReceivedRecordsTheTime : primary.clock ≤ 0 ∧ queued.clock ≤ 1400 := by decide
/-- The result is 1 at the guard and 0 one millisecond before, and 0 with nothing queued. -/
theorem witness_ReadyNeedsAQueuedReplyAndTheGuard :
    queued.clock ≤ 1449 ∧ queued.S.pendingFrame = true ∧
    queued.params.guardMs ≤ 1450 - queued.S.lastFrameReceived ∧
    ¬ queued.params.guardMs ≤ 1449 - queued.S.lastFrameReceived ∧ primary.S.pendingFrame = false := by decide
/-- Outside the corner: a recorded frame, on both sides of the bound; and no frame, at the bound itself. -/
theorem witness_IsBoundOutsideTheCorner :
    queued.clock ≤ 2399 ∧ ¬ (queued.S.lastFrameReceived = 0 ∧ 2399 < queued.params.boundMs) ∧
    2399 - queued.S.lastFrameReceived < queued.params.boundMs ∧
    ¬ 2400 - queued.S.lastFrameReceived < queued.params.boundMs ∧
    primary.clock ≤ 1000 ∧ ¬ (primary.S.lastFrameReceived = 0 ∧ 1000 < primary.params.boundMs) := by decide
theorem witness_IsBoundInTheCorner :
    primary.clock ≤ 999 ∧ primary.S.lastFrameReceived = 0 ∧ 999 < primary.params.boundMs := by decide
theorem witness_IsTimedOutComparesElapsed :
    queued.clock ≤ 3399 ∧ 2000 ≤ 3400 - queued.S.lastFrameReceived ∧
    ¬ 2000 ≤ 3399 - queued.S.lastFrameReceived := by decide
theorem witness_TimeoutPollResetsExactlyThreeElements :
    queued.clock ≤ 3399 ∧ ¬ 2000 ≤ 3399 - queued.S.lastFrameReceived ∧ queued.clock ≤ 3400 ∧
    2000 ≤ 3400 - queued.S.lastFrameReceived := by decide
theorem witness_TxPollSendsOnceWhenReady :
    queued.clock ≤ 1449 ∧ ¬ queued.params.guardMs ≤ 1449 - queued.S.lastFrameReceived ∧
    queued.clock ≤ 1450 ∧ queued.S.pendingFrame = true ∧
    queued.params.guardMs ≤ 1450 - queued.S.lastFrameReceived := by decide
theorem witness_TickSendsThenChecksTheTimeout : queued.clock ≤ 3400 := by decide
theorem witness_EveryTransmissionKeepsTheGuard :
    Output.tx queued.S.txBuf ∈ (after (.txPoll 1450) queued).outbox ∧
    exec (.txPoll 1450) queued = .next (after (.txPoll 1450) queued) :=
  ⟨by decide, next_after (by decide)⟩
/-- Every class has a group. -/
theorem witness_FrameClassesHaveTheirConditions :
    modePri.params.wf = true ∧ modeSec.params.wf = true ∧ modeOff.params.wf = true ∧
    classify modeOff [] = .unconnected ∧ classify modePri (List.replicate 7 0) = .short ∧
    classify modePri (wire 0x0120002718000100) = .statusCp1 ∧
    classify modePri (wire 0x0120002718000000) = .statusCp0Pri ∧
    classify modeSec (wire 0x0121001915000000) = .statusCp0Sec ∧
    classify modePri (wire 0x0120200000000000) = .login ∧
    classify modePri (wire 0x0120100000000000) = .error ∧
    classify modePri (wire 0x0120300000000000) = .reserved ∧
    classify modePri (wire 0x0121000000000000) = .observe ∧
    classify modePri (wire 0x2001000000000000) = .other := by decide
/-- A row in its condition, a row outside it, and a group of 8 and of 0 bytes. -/
theorem witness_EveryReceiveRowIsRxFrame :
    groupOf (.rxObserve (frame 0x0121000000002E00) 2200) = some (wire 0x0121000000002E00, 2200) ∧
    groupOf (.rxErrorPrimary (frame 0x0121000000002E00) 2200) = some (wire 0x0121000000002E00, 2200) ∧
    (wire 0x0121000000002E00).length ≤ 8 ∧ primary.clock ≤ 2200 ∧
    groupOf (.rxShort [] 2200) = some ([], 2200) := by decide
theorem witness_GroupAndCommandMakeTheSameStep :
    primary.params.wf = true ∧ (wire 0x0120002718000100).length ≤ 8 ∧ ([] : List Byte).length ≤ 8 := by decide
theorem witness_StatusWithControllerPresent :
    primary.S.controllerIsPrimary = true ∧ secondary.S.controllerIsPrimary = false ∧ primary.clock ≤ 1400 ∧
    primary.S.connected = true ∧
    (decodeFrame primary.params.layout (frame 0x0120002718000100)).messageDest = primary.S.controllerAddress ∧
    (decodeFrame primary.params.layout (frame 0x0120002718000100)).messageType = primary.params.mtStatus ∧
    (decodeFrame primary.params.layout (frame 0x0120002718000100)).controllerPresent = 1 ∧
    secondary.clock ≤ 1400 ∧ secondary.S.connected = true ∧
    (decodeFrame secondary.params.layout (frame 0x0121001915000100)).messageDest = secondary.S.controllerAddress ∧
    (decodeFrame secondary.params.layout (frame 0x0121001915000100)).messageType = secondary.params.mtStatus ∧
    (decodeFrame secondary.params.layout (frame 0x0121001915000100)).controllerPresent = 1 := by decide
theorem witness_StatusWithoutControllerPresentPrimary :
    primary.clock ≤ 1000 ∧ primary.S.connected = true ∧ primary.S.controllerIsPrimary = true ∧
    (decodeFrame primary.params.layout (frame 0x0120002718000000)).messageDest = primary.S.controllerAddress ∧
    (decodeFrame primary.params.layout (frame 0x0120002718000000)).messageType = primary.params.mtStatus ∧
    (decodeFrame primary.params.layout (frame 0x0120002718000000)).controllerPresent = 0 := by decide
theorem witness_StatusWithoutControllerPresentSecondary :
    secondary.clock ≤ 500 ∧ secondary.S.connected = true ∧ secondary.S.controllerIsPrimary = false ∧
    (decodeFrame secondary.params.layout (frame 0x0121001915000000)).messageDest = secondary.S.controllerAddress ∧
    (decodeFrame secondary.params.layout (frame 0x0121001915000000)).messageType = secondary.params.mtStatus ∧
    (decodeFrame secondary.params.layout (frame 0x0121001915000000)).controllerPresent = 0 := by decide
theorem witness_LoginIsEchoedWithoutMerge :
    primary.S.controllerIsPrimary = true ∧ secondary.S.controllerIsPrimary = false ∧
    primary.params.wf = true ∧ primary.clock ≤ 3000 ∧ primary.S.connected = true ∧
    (decodeFrame primary.params.layout (frame 0x012020499E000A00)).messageDest = primary.S.controllerAddress ∧
    (decodeFrame primary.params.layout (frame 0x012020499E000A00)).messageType = primary.params.mtLogin ∧
    secondary.params.wf = true ∧ secondary.clock ≤ 3000 ∧ secondary.S.connected = true ∧
    (decodeFrame secondary.params.layout (frame 0x0121200000000000)).messageDest = secondary.S.controllerAddress ∧
    (decodeFrame secondary.params.layout (frame 0x0121200000000000)).messageType = secondary.params.mtLogin := by
  decide
theorem witness_ErrorIsLoggedAndDropped :
    primary.S.controllerIsPrimary = true ∧ secondary.S.controllerIsPrimary = false ∧
    primary.params.wf = true ∧ primary.clock ≤ 3400 ∧ primary.S.connected = true ∧
    (decodeFrame primary.params.layout (frame 0x0120108000000000)).messageDest = primary.S.controllerAddress ∧
    (decodeFrame primary.params.layout (frame 0x0120108000000000)).messageType = primary.params.mtError ∧
    secondary.params.wf = true ∧ secondary.clock ≤ 3400 ∧ secondary.S.connected = true ∧
    (decodeFrame secondary.params.layout (frame 0x0121100000000000)).messageDest = secondary.S.controllerAddress ∧
    (decodeFrame secondary.params.layout (frame 0x0121100000000000)).messageType = secondary.params.mtError := by
  decide
theorem witness_ReservedTypeOnlyRecordsTheTime :
    primary.S.controllerIsPrimary = true ∧ secondary.S.controllerIsPrimary = false ∧
    primary.params.wf = true ∧ primary.clock ≤ 3500 ∧ primary.S.connected = true ∧
    (decodeFrame primary.params.layout (frame 0x0120300000000000)).messageDest = primary.S.controllerAddress ∧
    (decodeFrame primary.params.layout (frame 0x0120300000000000)).messageType = primary.params.mtReserved ∧
    secondary.params.wf = true ∧ secondary.clock ≤ 3500 ∧ secondary.S.connected = true ∧
    (decodeFrame secondary.params.layout (frame 0x0121300000000000)).messageDest = secondary.S.controllerAddress ∧
    (decodeFrame secondary.params.layout (frame 0x0121300000000000)).messageType = secondary.params.mtReserved := by
  decide
theorem witness_ObservedFrameMarksTheSecondary :
    primary.clock ≤ 2200 ∧ primary.S.connected = true ∧
    (decodeFrame primary.params.layout (frame 0x0121000000002E00)).messageDest = primary.params.addrSecondary ∧
    primary.S.controllerAddress ≠ primary.params.addrSecondary := by decide
theorem witness_OtherDestinationIsIgnored :
    primary.clock ≤ 3600 ∧ primary.S.connected = true ∧
    (decodeFrame primary.params.layout (frame 0x2001000000000000)).messageDest ≠ primary.S.controllerAddress ∧
    (decodeFrame primary.params.layout (frame 0x2001000000000000)).messageDest ≠ primary.params.addrSecondary := by
  decide
/-- At the two ends of the range, connected and not. -/
theorem witness_ShortGroupIsDropped :
    primary.clock ≤ 3700 ∧ ([] : List Byte).length < 8 ∧ (List.replicate 7 (0 : Byte)).length < 8 ∧
    State.reset.clock ≤ 3700 := by decide
theorem witness_UnconnectedGroupIsDropped :
    State.reset.clock ≤ 10 ∧ State.reset.S.connected = false ∧ (wire 0x0120002718000100).length ≤ 8 ∧
    ([] : List Byte).length ≤ 8 := by decide
theorem witness_UnaddressedFrameNeverQueuesAReply :
    (wireDecodeFrame primary.params.layout (Frame.ofList (wire 0x0121000000002E00))).messageDest ≠
      primary.S.controllerAddress ∧
    exec (.rxFrame (wire 0x0121000000002E00) 2200) primary =
      .next (after (.rxFrame (wire 0x0121000000002E00) 2200) primary) :=
  ⟨by decide, next_after (by decide)⟩
/-- Two frames that differ in the source, the reserved bits, `unknownBit`, `writeBit` and `updateMagic`. -/
theorem witness_SourceAndOpaqueBitsDoNotMatter :
    ((∀ f ∈ BodyField.all, f ≠ .updateMagic →
      (decodeFrame primary.params.layout (frame 0x77A0CF27187981FF)).body f =
        (decodeFrame primary.params.layout (frame 0x0120002718000100)).body f) ∧
      (decodeFrame primary.params.layout (frame 0x77A0CF27187981FF)).messageDest =
      (decodeFrame primary.params.layout (frame 0x0120002718000100)).messageDest ∧
      (decodeFrame primary.params.layout (frame 0x77A0CF27187981FF)).messageType =
      (decodeFrame primary.params.layout (frame 0x0120002718000100)).messageType) ∧
    exec (.rxFrame (wire 0x0120002718000100) 1400) primary = .next queued ∧
    exec (.rxFrame (wire 0x77A0CF27187981FF) 1400) primary =
      .next (after (.rxFrame (wire 0x77A0CF27187981FF) 1400) primary) :=
  ⟨by decide, next_after (by decide), next_after (by decide)⟩
theorem witness_StatusReplyIsMergedPersistedQueued :
    buildsStatusReply (.txStatusToUnitPrimary Frame.zero) = true ∧
    (replyTable serving.params serving.S (.txStatusToUnitPrimary Frame.zero)).isSome = true ∧
    buildsStatusReply (.txStatusToUnitSecondary Frame.zero) = true ∧
    (replyTable serving.params serving.S (.txStatusToUnitSecondary Frame.zero)).isSome = true ∧
    buildsStatusReply (.txStatusToSecondaryPrimary Frame.zero) = true ∧
    (replyTable serving.params serving.S (.txStatusToSecondaryPrimary Frame.zero)).isSome = true ∧
    buildsStatusReply (.txLoginToUnitPrimary Frame.zero) = true ∧
    (replyTable serving.params serving.S (.txLoginToUnitPrimary Frame.zero)).isSome = true ∧
    buildsStatusReply (.txStatusMagic2ToUnitSecondary Frame.zero) = true ∧
    (replyTable serving.params serving.S (.txStatusMagic2ToUnitSecondary Frame.zero)).isSome = true := by decide
theorem witness_LoginEchoIsQueuedOnly :
    buildsLoginEcho (.txLoginEchoToSecondaryPrimary Frame.zero) = true ∧
    (replyTable serving.params serving.S (.txLoginEchoToSecondaryPrimary Frame.zero)).isSome = true ∧
    buildsLoginEcho (.txLoginEchoToSecondarySecondary Frame.zero) = true ∧
    (replyTable serving.params serving.S (.txLoginEchoToSecondarySecondary Frame.zero)).isSome = true := by decide
/-- Both roles, a base frame of each type, and each reply completing. -/
theorem witness_QueuedReplyHasItsRowsFixedBits :
    (serving.params.wf = true ∧
      serving.S.currentState.fits serving.params.layout = true ∧
      serving.S.updateState.fits serving.params.layout = true ∧
      serving.S.controllerAddress = serving.params.addrPrimary ∧
      (decodeFrame serving.params.layout (frame 0x012020499E000A00)).messageType = serving.params.mtLogin) ∧
    exec (.txLoginEchoToSecondaryPrimary (frame 0x012020499E000A00)) serving =
      .next (after (.txLoginEchoToSecondaryPrimary (frame 0x012020499E000A00)) serving) ∧
    exec (.txStatusToUnitPrimary (frame 0x0120002718000100)) serving =
      .next (after (.txStatusToUnitPrimary (frame 0x0120002718000100)) serving) ∧
    exec (.txStatusToSecondaryPrimary (frame 0x0120002718000100)) serving =
      .next (after (.txStatusToSecondaryPrimary (frame 0x0120002718000100)) serving) ∧
    exec (.txLoginToUnitPrimary (frame 0x0120002718000000)) serving =
      .next (after (.txLoginToUnitPrimary (frame 0x0120002718000000)) serving) :=
  ⟨by decide, next_after (by decide), next_after (by decide), next_after (by decide), next_after (by decide)⟩
theorem witness_QueuedReplyHasItsRowsFixedBits_secondary :
    (secondary.params.wf = true ∧
      secondary.S.currentState.fits secondary.params.layout = true ∧
      secondary.S.updateState.fits secondary.params.layout = true ∧
      secondary.S.controllerAddress = secondary.params.addrSecondary ∧
      (decodeFrame secondary.params.layout (frame 0x0121200000000000)).messageType = secondary.params.mtLogin) ∧
    exec (.txLoginEchoToSecondarySecondary (frame 0x0121200000000000)) secondary =
      .next (after (.txLoginEchoToSecondarySecondary (frame 0x0121200000000000)) secondary) ∧
    exec (.txStatusToUnitSecondary (frame 0x0121001915000100)) secondary =
      .next (after (.txStatusToUnitSecondary (frame 0x0121001915000100)) secondary) ∧
    exec (.txStatusMagic2ToUnitSecondary (frame 0x0121001915000000)) secondary =
      .next (after (.txStatusMagic2ToUnitSecondary (frame 0x0121001915000000)) secondary) :=
  ⟨by decide, next_after (by decide), next_after (by decide), next_after (by decide)⟩
/-- V-H1 with something done between: a temperature is staged, a frame of class RX_STATUS_CP1 takes it, the reply is sent, the
mode is staged, and a frame of class RX_STATUS_CP0_PRI follows. -/
theorem witness_StagedValuesEnterExactlyOneReply :
    let s := after (.setTemp 22) primary
    let t := after (.rxFrame (wire 0x0120002718000100) 100) s
    let u := after (.setMode 3) (after (.txPoll 150) t)
    (s.clock ≤ 100 ∧ s.S.connected = true ∧ s.S.updateFields ≠ 0 ∧
      (decodeFrame s.params.layout (frame 0x0120002718000100)).messageDest = s.S.controllerAddress ∧
      (decodeFrame s.params.layout (frame 0x0120002718000100)).messageType = s.params.mtStatus) ∧
    runAll [.txPoll 150, .setMode 3] t = some u ∧
    (∀ i ∈ [Instr.txPoll 150, .setMode 3], ∀ x : Byte, stagedBy i ≠ some (.temperature, x)) ∧
    u.clock ≤ 200 ∧
    (decodeFrame u.params.layout (frame 0x0120002718000000)).messageDest = u.S.controllerAddress ∧
    (decodeFrame u.params.layout (frame 0x0120002718000000)).messageType = u.params.mtStatus :=
  ⟨by decide,
    runAll_cons.2 ⟨_, next_after (by decide), runAll_cons.2 ⟨_, next_after (by decide), rfl⟩⟩,
    by simp [stagedBy], by decide, by decide, by decide⟩
/-- The SECONDARY role, nothing staged between and nothing done between (V-F5's frame twice). -/
theorem witness_StagedValuesEnterExactlyOneReply_secondary :
    let t := after (.rxFrame (wire 0x0121001915000000) 100) secondary
    (secondary.clock ≤ 100 ∧ secondary.S.connected = true ∧
      (decodeFrame secondary.params.layout (frame 0x0121001915000000)).messageDest =
        secondary.S.controllerAddress ∧
      (decodeFrame secondary.params.layout (frame 0x0121001915000000)).messageType =
        secondary.params.mtStatus) ∧
    runAll [] t = some t ∧ (∀ i ∈ ([] : List Instr), stagedBy i = none) ∧ t.clock ≤ 100 ∧
    (decodeFrame t.params.layout (frame 0x0121001915000000)).messageDest = t.S.controllerAddress ∧
    (decodeFrame t.params.layout (frame 0x0121001915000000)).messageType = t.params.mtStatus :=
  ⟨by decide, rfl, by simp, by decide, by decide, by decide⟩
/-- Before the guard and at it. -/
theorem witness_StaleReplyLeavesAfterReset :
    queued.S.pendingFrame = true ∧ queued.clock ≤ 1401 ∧ queued.params.guardMs ≤ 1401 ∧
    (queued.at 0).clock ≤ 49 ∧ ¬ (queued.at 0).params.guardMs ≤ 49 := by decide
theorem witness_GettersReturnTheirField :
    getterField .getOnOff = some .onOff ∧ getterField .getTemp = some .temperature ∧
    getterField .getMode = some .acMode ∧ getterField .getFanMode = some .fanMode ∧
    getterField .getEconomyMode = some .economyMode ∧ getterField .getSwingMode = some .swingMode ∧
    getterField .getSwingStep = some .swingStep ∧ getterField .getControllerTemp = some .controllerTemp := by decide
/-- One operation of each kind the statement speaks of: a command, a poll that fires and one that does not, a frame that binds,
one at time 0, an observed frame in a BOUND phase, and a frame before CONNECT. -/
theorem witness_PhaseTransitions :
    Inv primary ∧ Inv queued ∧ Inv State.reset ∧
    (presentable (.connect true) = true ∧
      presentable .reset = true ∧
      presentable (.timeoutPoll 3400 2000) = true ∧
      queued.S.phase = .boundPrimaryNoSecondary ∧
      (after (.rxObserve (frame 0x0121000000002E00) 2200) queued).S.phase = .boundPrimaryWithSecondary ∧
      State.reset.S.phase = .disconnected) ∧
    exec (.connect true) queued = .next (after (.connect true) queued) ∧
    exec .reset queued = .next (after .reset queued) ∧
    exec (.timeoutPoll 3400 2000) queued = .next (after (.timeoutPoll 3400 2000) queued) ∧
    exec (.tick 3399 2000) queued = .next (after (.tick 3399 2000) queued) ∧
    exec (.rxFrame (wire 0x0120002718000100) 1400) primary = .next queued ∧
    exec (.rxErrorPrimary (frame 0x0120100000000000) 0) primary =
      .next (after (.rxErrorPrimary (frame 0x0120100000000000) 0) primary) :=
  ⟨by decide, by decide, by decide, by decide, next_after (by decide), next_after (by decide),
    next_after (by decide), next_after (by decide), next_after (by decide), next_after (by decide)⟩
theorem witness_UnassignedCodesDoNothing :
    (Instr.unassigned07 = .unassigned00 ∨ Instr.unassigned07 = .unassigned07 ∨
      Instr.unassigned07 = .unassigned0F) := by decide
/-- CONNECT, and an operation that is not CONNECT. -/
theorem witness_RoleIsFixedByConnectAlone :
    exec (.connect true) queued = .next (after (.connect true) queued) ∧
    exec .reset queued = .next (after .reset queued) :=
  ⟨next_after (by decide), next_after (by decide)⟩
/-- Each element is changed by some operation of its list. -/
theorem witness_EachElementHasItsWriters :
    (queued.S.controllerLoggedIn ≠ primary.S.controllerLoggedIn ∧
      queued.S.lastFrameReceived ≠ primary.S.lastFrameReceived ∧
      queued.S.currentState ≠ primary.S.currentState ∧
      queued.S.txBuf ≠ primary.S.txBuf ∧
      queued.S.pendingFrame ≠ primary.S.pendingFrame ∧
      (after (.setTemp 22) primary).S.updateState ≠ primary.S.updateState ∧
      (after (.setTemp 22) primary).S.updateFields ≠ primary.S.updateFields ∧
      (after (.rxObserve (frame 0x0121000000002E00) 2200) primary).S.seenSecondaryController ≠
      primary.S.seenSecondaryController) ∧
    exec (.rxFrame (wire 0x0120002718000100) 1400) primary = .next queued ∧
    exec (.setTemp 22) primary = .next (after (.setTemp 22) primary) ∧
    exec (.rxObserve (frame 0x0121000000002E00) 2200) primary =
      .next (after (.rxObserve (frame 0x0121000000002E00) 2200) primary) :=
  ⟨by decide, next_after (by decide), next_after (by decide), next_after (by decide)⟩
/-- A timed operation at the last time seen, a group of 8 bytes, and an operation without time. -/
theorem witness_EveryOperationCompletes :
    timeOf (.rxFrame (wire 0x0120002718000100) 1400) = some 1400 ∧ queued.clock ≤ 1400 ∧
    groupOf (.rxFrame (wire 0x0120002718000100) 1400) = some (wire 0x0120002718000100, 1400) ∧
    (wire 0x0120002718000100).length ≤ 8 ∧ timeOf .getTemp = none ∧ groupOf .getTemp = none := by decide
/-- One millisecond too early, and one byte too many. -/
theorem witness_BrokenObligationsAreRefused :
    timeOf (.txPoll 1399) = some 1399 ∧ 1399 < queued.clock ∧ groupOf (.txPoll 1399) = none ∧
    timeOf (.rxFrame [] 1399) = some 1399 ∧ ([] : List Byte).length ≤ 8 ∧
    groupOf (.rxFrame (List.replicate 9 0) 1400) = some (List.replicate 9 0, 1400) ∧
    8 < (List.replicate 9 (0 : Byte)).length := by decide
/-- An empty queue; an event that decodes; one that does not; and an instance that is not well formed. -/
theorem witness_StepDoesTheDecodedOperation :
    primary.inbox = [] ∧ primary.params.wf = true ∧
    ({ primary with inbox := [.command 0b10001 [] []] } : State).inbox = .command 0b10001 [] [] :: [] ∧
    decode primary.mode (.command 0b10001 [] []) = .ok .getTemp ∧
    decode primary.mode (.command 0b10001 [1] []) = .rejected .byteOperands ∧
    (State.powerOn { Config.p0 with addrUnit := 32 }).params.wf = false := by decide
/-- A command, a row of the frame map and a reply shape. -/
theorem witness_DecodeReadsBackEncode :
    (Instr.rxFrame (wire 0x0120002718000100) 1).wf modePri = true ∧
    encode (.rxFrame (wire 0x0120002718000100) 1) = some (.command 0x03 (8 :: wire 0x0120002718000100) [1]) ∧
    (Instr.rxOther (frame 0x2001000000000000) 1).wf modePri = true ∧
    encode (.rxOther (frame 0x2001000000000000) 1) = some (.group (wire 0x2001000000000000) 1) ∧
    modePri.params.wf = true ∧
    (Instr.txStatusMagic2ToUnitSecondary (frame 0x2181001915200100)).wf modePri = true ∧
    encodeReply (.txStatusMagic2ToUnitSecondary (frame 0x2181001915200100)) =
      some (frame 0x2181001915200100) := by decide
theorem witness_DecodedOperationIsWellFormed :
    decode modePri (.group (wire 0x0120002718000100) 1) = .ok (.rxStatusCp1Primary (frame 0x0120002718000100) 1) := by
  decide
/-- A state with a reply queued, and an event that sends it. -/
theorem witness_StepKeepsTheInvariant :
    Inv { queued with inbox := [.command 0b00100 [] [1450]] } ∧
    step { queued with inbox := [.command 0b00100 [] [1450]] } = .next (after (.txPoll 1450) queued) :=
  ⟨by decide, next_after (i := .txPoll 1450) (s := queued) (by decide)⟩
theorem witness_PowerOnMeetsTheInvariant : Config.p1.wf = true := by decide

end Sys2Proof.Tests
end

section
/-! PROOFS. 20_memory.md: a group of fewer than 8 bytes is dropped. -/

namespace Sys2Proof.Machine

/-! ### The classes of a group that carries no frame (30_encoding.md R86) -/

theorem classify_of_unconnected {m : Mode} (raw : List Byte) (hc : m.connected = false) :
    classify m raw = .unconnected := if_pos hc

theorem classify_of_short {m : Mode} {raw : List Byte} (hc : m.connected = true)
    (hlen : raw.length < 8) : classify m raw = .short := by
  simp [classify, hc, hlen]

/-! ### Their reaction (43_session_fsm.md R160) -/

@[simp] theorem react_unconnected (s : State) (raw : List Byte) (now : Nat) :
    s.react .unconnected raw now = s := rfl

@[simp] theorem react_short (s : State) (raw : List Byte) (now : Nat) :
    s.react .short raw now = s := rfl

/-- A short group is `unconnected` or `short`, by whether the mode is connected; either class is dropped. -/
theorem react_classify_of_length_lt (s : State) (m : Mode) {raw : List Byte} (now : Nat)
    (hlen : raw.length < 8) : s.react (classify m raw) raw now = s := by
  cases hc : m.connected with
  | false => rw [classify_of_unconnected raw hc, react_unconnected]
  | true => rw [classify_of_short hc hlen, react_short]

/-! ### The two operations that present it -/

theorem exec_rxShort (raw : List Byte) (now : Nat) (s : State) :
    exec (.rxShort raw now) s = asDropped (classify s.mode raw == .short) raw now s := rfl

theorem receive_of_length_lt {raw : List Byte} {now : Nat} {s : State} (hclock : s.clock ≤ now)
    (hlen : raw.length < 8) : receive raw now s = .next (s.at now) :=
  receive_next.2 ⟨hlen.le, hclock, (react_classify_of_length_lt (s.at now) s.mode now hlen).symm⟩

/-- `RX_SHORT` and `RX_UNCONNECTED` drop a short group inside their row's condition and outside it. -/
theorem asDropped_of_length_lt (holds : Bool) {raw : List Byte} {now : Nat} {s : State}
    (hclock : s.clock ≤ now) (hlen : raw.length < 8) :
    asDropped holds raw now s = .next (s.at now) := by
  have hreact := react_classify_of_length_lt (s.at now) s.mode now hlen
  exact (asDropped_next fun _ => hlen.le).2 ⟨hlen.le, hclock, by rw [hreact, ite_self]⟩

/-- Settles O33: both operations lead to the state at the new time (20_memory.md R57). -/
theorem shortGroupIsDropped : Obligations.ShortGroupIsDropped := by
  rintro s raw now i (rfl | rfl) hclock hlen
  · rw [exec_rxShort]
    exact asDropped_of_length_lt _ hclock hlen
  · rw [exec_rxFrame]
    exact receive_of_length_lt hclock hlen

end Sys2Proof.Machine
end

section
/-! PROOFS. 40_codec.md: where DECODE reads its fields, and the line inversion. -/

namespace Sys2Proof

/-! ### The bits an extraction keeps (00_scope.md R13) -/

/-- Cut to `w` bits, `extract` is the run of `w` bits from `off` on, for any mask that covers this run. -/
theorem setWidth_extract {mask : Byte} {off w : Nat} (byte : Byte)
    (hmask : ∀ k < w, mask.getLsbD (off + k) = true) :
    (extract byte mask off).setWidth w = byte.extractLsb' off w := by
  ext k hk
  simp [extract, hmask k hk]

/-! ### The header fields of a decoded frame (40_codec.md R102) -/

section
variable (L : Layout) (b : Frame)

@[simp] theorem decodeFrame_messageSource : (decodeFrame L b).messageSource = b.b0 := rfl

@[simp] theorem decodeFrame_messageDest :
    (decodeFrame L b).messageDest = b.b1.extractLsb' 0 7 := setWidth_extract b.b1 (by decide)

@[simp] theorem decodeFrame_loginBit :
    (decodeFrame L b).loginBit = b.b1.extractLsb' 5 1 := setWidth_extract b.b1 (by decide)

@[simp] theorem decodeFrame_unknownBit :
    (decodeFrame L b).unknownBit = b.b1.extractLsb' 7 1 := setWidth_extract b.b1 (by decide)

@[simp] theorem decodeFrame_messageType :
    (decodeFrame L b).messageType = b.b2.extractLsb' 4 2 := setWidth_extract b.b2 (by decide)

@[simp] theorem decodeFrame_writeBit :
    (decodeFrame L b).writeBit = b.b2.extractLsb' 3 1 := setWidth_extract b.b2 (by decide)

end

/-! ### The line inversion (40_codec.md R100) -/

/-- The inversion of a frame is the one frame that has each of its bytes complemented. -/
theorem invFrame_eq_iff {w b : Frame} :
    invFrame w = b ↔ ∀ i : Fin 8, b.get i = w.get i ^^^ 0xFF := by
  constructor
  · rintro rfl i
    exact get_invFrame w i
  · intro hget
    refine Frame.ext_get fun i => ?_
    rw [get_invFrame, hget]
    rfl

namespace Machine

/-! ### What each codec operation emits, in every state -/

section
variable (s : State) (b w : Frame) (F : ControlFrame)

theorem exec_frameDecode : exec (.frameDecode b) s =
    .next { s with outbox := s.outbox ++ [.record (decodeFrame s.params.layout b)] } := rfl

theorem exec_cmdDecode : exec (.cmdDecode b) s =
    .next { s with outbox := s.outbox ++ [.record (decodeFrame s.params.layout b)] } := rfl

theorem exec_cmdEncode : exec (.cmdEncode F) s =
    .next { s with outbox := s.outbox ++ [.bytes (encodeFrame s.params.layout F)] } := rfl

theorem exec_cmdInv : exec (.cmdInv b) s =
    .next { s with outbox := s.outbox ++ [.bytes (invFrame b)] } := rfl

theorem exec_wireDecode : exec (.wireDecode w) s =
    .next { s with outbox := s.outbox ++ [.record (decodeFrame s.params.layout (invFrame w))] } := rfl

theorem exec_wireEncode : exec (.wireEncode F) s =
    .next { s with outbox := s.outbox ++ [.bytes (invFrame (encodeFrame s.params.layout F))] } := rfl

end

/-- Settles O1: the emitted record is `decodeFrame`'s, whose header and body fields are read at their places
(40_codec.md R102). -/
theorem decodeAnswersEveryField : Obligations.DecodeAnswersEveryField := fun s b =>
  ⟨decodeFrame s.params.layout b, exec_cmdDecode s b, exec_frameDecode s b,
    decodeFrame_messageSource _ b, decodeFrame_messageDest _ b, decodeFrame_loginBit _ b,
    decodeFrame_unknownBit _ b, decodeFrame_messageType _ b, decodeFrame_writeBit _ b,
    body_decodeFrame _ b⟩

/-- Settles O3: the emitted frame is the inversion, and inverting it gives the frame back (40_codec.md R100). -/
theorem invComplementsEveryByte : Obligations.InvComplementsEveryByte := by
  intro s b
  have hback := exec_cmdInv s (invFrame b)
  rw [invFrame_invFrame] at hback
  exact ⟨invFrame b, exec_cmdInv s b, invFrame_eq_iff.1 rfl, hback⟩

/-- Settles O4: the wire operations decode the inverted frame and invert the encoded one (40_codec.md R104, R105). -/
theorem wireOperationsInvertOnce : Obligations.WireOperationsInvertOnce := by
  constructor
  · intro s w b hget
    obtain rfl : invFrame w = b := invFrame_eq_iff.2 hget
    exact ⟨decodeFrame s.params.layout (invFrame w), exec_wireDecode s w, exec_cmdDecode s (invFrame w)⟩
  · intro s F
    exact ⟨invFrame (encodeFrame s.params.layout F), encodeFrame s.params.layout F,
      exec_wireEncode s F, exec_cmdEncode s F, invFrame_eq_iff.1 rfl⟩

end Machine
end Sys2Proof
end

section
/-! PROOFS. 42_transport_timer.md: when a queued reply is ready, and what sending it does. -/

namespace Sys2Proof.Machine

/-! ### The two operations at a time not earlier than the last one -/

section
variable {s : State} {now : Nat}

theorem exec_readyToTransmit_of_le (hclock : s.clock ≤ now) :
    exec (.readyToTransmit now) s = .next ((s.at now).emit (.bit (s.S.ready s.params now))) := by
  rw [exec_readyToTransmit, timed_of_le _ hclock, State.at_S, State.at_params]

theorem exec_txPoll_of_le (hclock : s.clock ≤ now) :
    exec (.txPoll now) s = .next ((s.at now).txPoll now) := by
  rw [exec_txPoll, timed_of_le _ hclock]

theorem exec_txPoll_of_ready (hclock : s.clock ≤ now)
    (hready : s.S.pendingFrame = true ∧ s.params.guardMs ≤ now - s.S.lastFrameReceived) :
    exec (.txPoll now) s = .next (((s.at now).withS s.S.sent).emit (.tx s.S.txBuf)) := by
  rw [exec_txPoll_of_le hclock, txPoll_eq, State.at_S, State.at_params, if_pos hready]

theorem exec_txPoll_of_not_ready (hclock : s.clock ≤ now)
    (hready : ¬ (s.S.pendingFrame = true ∧ s.params.guardMs ≤ now - s.S.lastFrameReceived)) :
    exec (.txPoll now) s = .next (s.at now) := by
  rw [exec_txPoll_of_le hclock, txPoll_eq, State.at_S, State.at_params, if_neg hready]

end

/-- Settles O14: the emitted bit is `Session.ready`, which is 1 exactly under R141's two conditions. -/
theorem readyNeedsAQueuedReplyAndTheGuard : Obligations.ReadyNeedsAQueuedReplyAndTheGuard :=
  fun s now hclock =>
    ⟨s.S.ready s.params now, exec_readyToTransmit_of_le hclock, ready_iff s.S s.params now⟩

/-- Settles O19: by cases on whether the queued reply is ready (42_transport_timer.md R145). -/
theorem txPollSendsOnceWhenReady : Obligations.TxPollSendsOnceWhenReady := by
  intro s now hclock
  split
  next hready => exact exec_txPoll_of_ready hclock hready
  next hready => exact exec_txPoll_of_not_ready hclock hready

end Sys2Proof.Machine
end

section
/-! PROOFS. 43_session_fsm.md: a frame to any other destination is ignored, and what the eight getters return. -/

namespace Sys2Proof

/-- Received off the wire, the group of the logical frame `b` decodes to the record of `b` (40_codec.md R104). -/
theorem wireDecodeFrame_ofList_invFrame (L : Layout) (b : Frame) :
    wireDecodeFrame L (Frame.ofList (invFrame b).toList) = decodeFrame L b := by
  rw [Frame.ofList_toList, wireDecodeFrame, invFrame_invFrame]

namespace Machine

/-! ### The class RX_OTHER (30_encoding.md R86) and its reaction (43_session_fsm.md R163) -/

theorem classify_of_other {m : Mode} {b : Frame} (hc : m.connected = true)
    (hown : (decodeFrame m.params.layout b).messageDest ≠ m.own)
    (hsec : (decodeFrame m.params.layout b).messageDest ≠ m.params.addrSecondary) :
    classify m (invFrame b).toList = .other := by
  have hconn : ¬ m.connected = false := by simp [hc]
  have hlen : ¬ (invFrame b).toList.length < 8 := by simp
  rw [← wireDecodeFrame_ofList_invFrame] at hown hsec
  rw [classify, if_neg hconn, if_neg hlen, if_neg hown, if_neg hsec]

@[simp] theorem react_other (s : State) (raw : List Byte) (now : Nat) :
    s.react .other raw now = s := rfl

/-! ### The two operations that present it -/

theorem exec_rxOther (b : Frame) (now : Nat) (s : State) :
    exec (.rxOther b now) s = asRow (classHolds s.mode .other b) b now s fun s => s := rfl

section
variable {b : Frame} {now : Nat} {s : State}

theorem receive_of_other (hclock : s.clock ≤ now)
    (hclass : classify s.mode (invFrame b).toList = .other) :
    receive (invFrame b).toList now s = .next (s.at now) :=
  receive_next.2 ⟨(Frame.toList_length _).le, hclock, by rw [hclass, react_other]⟩

theorem exec_rxOther_of_other (hclock : s.clock ≤ now)
    (hclass : classify s.mode (invFrame b).toList = .other) :
    exec (.rxOther b now) s = .next (s.at now) := by
  have hholds : classHolds s.mode .other b = true := by simp [classHolds, hclass]
  rw [exec_rxOther]
  exact asRow_next.2 ⟨hclock, by rw [if_pos hholds]⟩

end

/-- Settles O32: the frame is of class RX_OTHER, which both operations drop (43_session_fsm.md R163). -/
theorem otherDestinationIsIgnored : Obligations.OtherDestinationIsIgnored := by
  intro s b now i hi F hclock hconn hown hsec
  have hclass : classify s.mode (invFrame b).toList = .other := classify_of_other hconn hown hsec
  rcases hi with rfl | rfl
  · exact exec_rxOther_of_other hclock hclass
  · rw [exec_rxFrame]
    exact receive_of_other hclock hclass

/-! ### The getters (43_session_fsm.md R182 to R189) -/

section
variable (s : State)

theorem exec_getOnOff : exec .getOnOff s =
    .next { s with outbox := s.outbox ++ [.value s.S.currentState.onOff] } := rfl

theorem exec_getTemp : exec .getTemp s =
    .next { s with outbox := s.outbox ++ [.value s.S.currentState.temperature] } := rfl

theorem exec_getMode : exec .getMode s =
    .next { s with outbox := s.outbox ++ [.value s.S.currentState.acMode] } := rfl

theorem exec_getFanMode : exec .getFanMode s =
    .next { s with outbox := s.outbox ++ [.value s.S.currentState.fanMode] } := rfl

theorem exec_getEconomyMode : exec .getEconomyMode s =
    .next { s with outbox := s.outbox ++ [.value s.S.currentState.economyMode] } := rfl

theorem exec_getSwingMode : exec .getSwingMode s =
    .next { s with outbox := s.outbox ++ [.value s.S.currentState.swingMode] } := rfl

theorem exec_getSwingStep : exec .getSwingStep s =
    .next { s with outbox := s.outbox ++ [.value s.S.currentState.swingStep] } := rfl

theorem exec_getControllerTemp : exec .getControllerTemp s =
    .next { s with outbox := s.outbox ++ [.value s.S.currentState.controllerTemp] } := rfl

end

/-- Settles O44: by cases on which getter the operation is; each emits its own field. -/
theorem gettersReturnTheirField : Obligations.GettersReturnTheirField := by
  intro s i f hfield
  unfold getterField at hfield
  split at hfield <;> cases hfield
  case h_1 => exact exec_getOnOff s
  case h_2 => exact exec_getTemp s
  case h_3 => exact exec_getMode s
  case h_4 => exact exec_getFanMode s
  case h_5 => exact exec_getEconomyMode s
  case h_6 => exact exec_getSwingMode s
  case h_7 => exact exec_getSwingStep s
  case h_8 => exact exec_getControllerTemp s

end Machine
end Sys2Proof
end

section
/-! PROOFS. Every row of the frame map is RX_FRAME on its group, and what each operation can do, said once: it receives a
group, acts at a time, or acts at once. -/

namespace Sys2Proof.Machine

/-! ### The reaction of each class to the group of a logical frame -/

section
variable (s : State) (b : Frame) (now : Nat)

theorem react_statusCp1 :
    s.react .statusCp1 (invFrame b).toList now = s.reactStatusCp1 b now := by
  simp [State.react]

theorem react_statusCp0Pri :
    s.react .statusCp0Pri (invFrame b).toList now = s.reactStatusCp0Pri b now := by
  simp [State.react]

theorem react_statusCp0Sec :
    s.react .statusCp0Sec (invFrame b).toList now = s.reactStatusCp0Sec b now := by
  simp [State.react]

theorem react_login : s.react .login (invFrame b).toList now = s.reactLogin b now := by
  simp [State.react]

theorem react_error : s.react .error (invFrame b).toList now = s.reactError b now := by
  simp [State.react]

theorem react_reserved : s.react .reserved (invFrame b).toList now = s.reactReserved now := rfl

theorem react_observe : s.react .observe (invFrame b).toList now = s.reactObserve b := by
  simp [State.react]

end

/-! ### A row of the frame map is RX_FRAME on its group (43_session_fsm.md R160) -/

theorem classHolds_iff {m : Mode} {c : FrameClass} {b : Frame} :
    classHolds m c b = true ↔ classify m (invFrame b).toList = c := by
  simp [classHolds]

theorem rowHolds_iff {m : Mode} {c : FrameClass} {primary : Bool} {b : Frame} :
    rowHolds m c primary b = true ↔
      m.isPrimary = primary ∧ classify m (invFrame b).toList = c := by
  simp [rowHolds, classHolds_iff]

section
variable {s : State} {c : FrameClass} {k : State → State} {now : Nat}

/-- A row whose own reaction is that of its class receives the frame, in its condition and outside it. -/
theorem asRow_eq_receive {holds : Bool} {b : Frame}
    (hclass : holds = true → classify s.mode (invFrame b).toList = c)
    (hk : ∀ s, k s = s.react c (invFrame b).toList now) :
    asRow holds b now s k = receive (invFrame b).toList now s := by
  cases holds with
  | false => rfl
  | true =>
    have hact : k (s.at now) = (s.at now).react (classify (s.at now).mode (invFrame b).toList)
        (invFrame b).toList now := by rw [hk, State.mode_at, hclass rfl]
    simp [asRow, receive, timed, hact]

theorem asRow_rowHolds_eq_receive {primary : Bool} {b : Frame}
    (hk : ∀ s, k s = s.react c (invFrame b).toList now) :
    asRow (rowHolds s.mode c primary b) b now s k = receive (invFrame b).toList now s :=
  asRow_eq_receive (fun h => (rowHolds_iff.1 h).2) hk

theorem asRow_classHolds_eq_receive {b : Frame}
    (hk : ∀ s, k s = s.react c (invFrame b).toList now) :
    asRow (classHolds s.mode c b) b now s k = receive (invFrame b).toList now s :=
  asRow_eq_receive classHolds_iff.1 hk

/-- A row without a frame drops a group of at most 8 bytes, as its class does. -/
theorem asDropped_eq_receive {holds : Bool} {raw : List Byte}
    (hlen : holds = true → raw.length ≤ 8) (hclass : holds = true → classify s.mode raw = c)
    (hc : ∀ s : State, s.react c raw now = s) :
    asDropped holds raw now s = receive raw now s := by
  cases holds with
  | false => rfl
  | true =>
    have hdrop : (s.at now).react (classify (s.at now).mode raw) raw now = s.at now := by
      rw [State.mode_at, hclass rfl, hc]
    simp only [asDropped, receive, if_true, if_neg (Nat.not_lt.2 (hlen rfl)), timed, hdrop]

end

theorem length_lt_of_classify_short {m : Mode} {raw : List Byte} (h : classify m raw = .short) :
    raw.length < 8 := by
  by_contra hlen
  revert h
  unfold classify
  simp only [hlen, if_false]
  repeat' split
  all_goals exact nofun

/-- Every operation that receives a group is `receive` on that group. -/
theorem exec_of_groupOf {i : Instr} {raw : List Byte} {now : Nat} {s : State}
    (h : groupOf i = some (raw, now)) : exec i s = receive raw now s := by
  unfold groupOf at h
  split at h <;> cases h
  case h_1 => rfl
  case h_2 =>
    exact asDropped_eq_receive (fun h => (length_lt_of_classify_short (beq_iff_eq.1 h)).le)
      beq_iff_eq.1 fun s => react_short s _ _
  case h_3 =>
    simp only [exec, execRxUnconnected]
    refine asDropped_eq_receive (c := .unconnected) ?_ ?_ fun s => react_unconnected s _ _ <;>
      simp +contextual
  case h_4 b => exact asRow_rowHolds_eq_receive fun s => (react_statusCp1 s b now).symm
  case h_5 b => exact asRow_rowHolds_eq_receive fun s => (react_statusCp1 s b now).symm
  case h_6 b => exact asRow_rowHolds_eq_receive fun s => (react_statusCp0Pri s b now).symm
  case h_7 b => exact asRow_rowHolds_eq_receive fun s => (react_statusCp0Sec s b now).symm
  case h_8 b => exact asRow_rowHolds_eq_receive fun s => (react_error s b now).symm
  case h_9 b => exact asRow_rowHolds_eq_receive fun s => (react_error s b now).symm
  case h_10 b => exact asRow_rowHolds_eq_receive fun s => (react_login s b now).symm
  case h_11 b => exact asRow_rowHolds_eq_receive fun s => (react_login s b now).symm
  case h_12 b => exact asRow_rowHolds_eq_receive fun s => (react_reserved s b now).symm
  case h_13 b => exact asRow_rowHolds_eq_receive fun s => (react_reserved s b now).symm
  case h_14 b => exact asRow_classHolds_eq_receive fun s => (react_observe s b now).symm
  case h_15 b => exact asRow_classHolds_eq_receive fun s => (react_other s _ now).symm

/-- Settles O23: the row is `receive` on its group, and so is RX_FRAME. -/
theorem everyReceiveRowIsRxFrame : Obligations.EveryReceiveRowIsRxFrame := by
  intro s i raw now hgroup hlen hclock
  have hnext := (receive_next (s := s)).2 ⟨hlen, hclock, rfl⟩
  exact ⟨_, (exec_of_groupOf hgroup).trans hnext, hnext⟩

/-! ### What each operation does -/

/-- An output that is no transmission. -/
def Output.isTx : Output → Bool
  | .tx _ => true
  | _ => false

/-- The machine `t` is `s` with one more answer, which is no transmission; a free bit may have been drawn for it. -/
def Answers (s t : State) : Prop :=
  ∃ o : Output, o.isTx = false ∧ (t = s.emit o ∨ t = s.draw.emit o)

/-- What a timed operation that receives no group does to the machine at its time `now`. -/
inductive TimedEffect (i : Instr) (now : Nat) (k : State → State) : Prop
  | polls (hi : i = .txPoll now) (hk : ∀ s, k s = s.txPoll now)
  | pollsTimeout (thresholdMs : Nat) (hi : i = .timeoutPoll now thresholdMs)
      (hk : ∀ s, k s = s.timeoutPoll now thresholdMs)
  | ticks (thresholdMs : Nat) (hi : i = .tick now thresholdMs)
      (hk : ∀ s, k s = (s.txPoll now).timeoutPoll now thresholdMs)
  | recordsTime (hi : i = .onFrameReceived now)
      (hk : ∀ s, k s = s.withS (s.S.onFrameReceived now))
  | answers (hk : ∀ s, Answers s (k s))

/-- What an operation without a time does to the machine `s`. -/
inductive UntimedEffect (i : Instr) (s : State) : State → Prop
  | stages (f : StageField) (v : Byte) (hi : stagedBy i = some (f, v)) :
      UntimedEffect i s (s.staged f v)
  | repliesStatus (R : ControlFrame) (hi : buildsStatusReply i = true)
      (hR : replyTable s.params s.S i = some R) :
      UntimedEffect i s (s.withS (s.S.answer s.params.layout R))
  | repliesLogin (R : ControlFrame) (hi : buildsLoginEcho i = true)
      (hR : replyTable s.params s.S i = some R) :
      UntimedEffect i s (s.withS (s.S.queue s.params.layout R))
  | connects (v : Bool) (hi : i = .connect v) :
      UntimedEffect i s (s.withS (s.S.connect s.params v))
  | resets (hi : i = .reset) : UntimedEffect i s (s.withS s.S.resetSession)
  | applies (R : ControlFrame) (hi : i = .applyAndClear R) :
      UntimedEffect i s ((s.withS s.S.clearDirty).emit (.record (s.S.applied R)))
  | answers {t : State} (ht : Answers s t) : UntimedEffect i s t
  | nothing : UntimedEffect i s s

/-- The three forms of an operation: it receives a group, acts at a time, or acts at once. -/
inductive ExecForm (i : Instr) (s : State) : Prop
  | receives (raw : List Byte) (now : Nat) (hgroup : groupOf i = some (raw, now))
      (hexec : exec i s = receive raw now s)
  | timed (now : Nat) (k : State → State) (hgroup : groupOf i = none) (htime : timeOf i = some now)
      (hexec : exec i s = Machine.timed now s k) (heffect : TimedEffect i now k)
  | untimed (t : State) (hgroup : groupOf i = none) (htime : timeOf i = none)
      (hexec : exec i s = .next t) (heffect : UntimedEffect i s t)

theorem ExecForm.of_groupOf {i : Instr} {raw : List Byte} {now : Nat} {s : State}
    (h : groupOf i = some (raw, now)) : ExecForm i s := .receives raw now h (exec_of_groupOf h)

theorem answers_emit {s : State} {o : Output} (h : o.isTx = false) : Answers s (s.emit o) :=
  ⟨o, h, .inl rfl⟩

theorem answers_isBound (s : State) (now : Nat) : Answers s (s.isBound now) := by
  unfold State.isBound
  split
  · exact ⟨_, rfl, .inr rfl⟩
  · exact answers_emit rfl

theorem ExecForm.of_answers {i : Instr} {s : State} {o : Output} (hgroup : groupOf i = none)
    (htime : timeOf i = none) (hexec : exec i s = .next (s.emit o)) (ho : o.isTx = false) :
    ExecForm i s := .untimed _ hgroup htime hexec (.answers (answers_emit ho))

theorem ExecForm.of_staged {i : Instr} {s : State} {f : StageField} {v : Byte}
    (hgroup : groupOf i = none) (htime : timeOf i = none) (hi : stagedBy i = some (f, v))
    (hexec : exec i s = .next (s.staged f v)) : ExecForm i s :=
  .untimed _ hgroup htime hexec (.stages f v hi)

theorem ExecForm.of_status {i : Instr} {s : State} {R : ControlFrame} (hgroup : groupOf i = none)
    (htime : timeOf i = none) (hi : buildsStatusReply i = true)
    (hR : replyTable s.params s.S i = some R)
    (hexec : exec i s = .next (s.withS (s.S.answer s.params.layout R))) : ExecForm i s :=
  .untimed _ hgroup htime hexec (.repliesStatus R hi hR)

theorem ExecForm.of_echo {i : Instr} {s : State} {R : ControlFrame} (hgroup : groupOf i = none)
    (htime : timeOf i = none) (hi : buildsLoginEcho i = true)
    (hR : replyTable s.params s.S i = some R)
    (hexec : exec i s = .next (s.withS (s.S.queue s.params.layout R))) : ExecForm i s :=
  .untimed _ hgroup htime hexec (.repliesLogin R hi hR)

/-- Every operation has one of the three forms, with the effect the spec gives it. -/
theorem execForm (i : Instr) (s : State) : ExecForm i s := by
  cases i with
  | rxStatusCp1Primary | rxStatusCp1Secondary | rxStatusCp0Pri | rxStatusCp0Sec | rxErrorPrimary
  | rxErrorSecondary | rxLoginPrimary | rxLoginSecondary | rxReservedPrimary
  | rxReservedSecondary | rxObserve | rxOther | rxShort | rxUnconnected | rxFrame =>
    exact .of_groupOf rfl
  | txStatusToUnitPrimary | txStatusToUnitSecondary | txStatusToSecondaryPrimary
  | txLoginToUnitPrimary | txStatusMagic2ToUnitSecondary => exact .of_status rfl rfl rfl rfl rfl
  | txLoginEchoToSecondaryPrimary | txLoginEchoToSecondarySecondary =>
    exact .of_echo rfl rfl rfl rfl rfl
  | stage | setTemp | setMode | setFanMode | setSwingMode | setSwingStep | setEconomyMode
  | setOnOff => exact .of_staged rfl rfl rfl rfl
  | frameDecode | frameEncode | cmdDecode | cmdEncode | cmdInv | wireDecode | wireEncode
  | getOnOff | getTemp | getMode | getFanMode | getEconomyMode | getSwingMode | getSwingStep
  | getControllerTemp | updatePending | phase => exact .of_answers rfl rfl rfl rfl
  | unassigned00 | unassigned07 | unassigned0F => exact .untimed s rfl rfl rfl .nothing
  | connect v => exact .untimed _ rfl rfl rfl (.connects v rfl)
  | reset => exact .untimed _ rfl rfl rfl (.resets rfl)
  | applyAndClear R => exact .untimed _ rfl rfl rfl (.applies R rfl)
  | txPoll now => exact .timed now _ rfl rfl (exec_txPoll now s) (.polls rfl fun _ => rfl)
  | timeoutPoll now th =>
    exact .timed now _ rfl rfl (exec_timeoutPoll now th s) (.pollsTimeout th rfl fun _ => rfl)
  | tick now th => exact .timed now _ rfl rfl (exec_tick now th s) (.ticks th rfl fun _ => rfl)
  | onFrameReceived now =>
    exact .timed now _ rfl rfl (exec_onFrameReceived now s) (.recordsTime rfl fun _ => rfl)
  | isBound now =>
    exact .timed now _ rfl rfl (exec_isBound now s) (.answers fun s => answers_isBound s now)
  | isTimedOut now th =>
    exact .timed now _ rfl rfl (exec_isTimedOut now th s) (.answers fun _ => answers_emit rfl)
  | readyToTransmit now =>
    exact .timed now _ rfl rfl (exec_readyToTransmit now s) (.answers fun _ => answers_emit rfl)

end Sys2Proof.Machine
end

section
/-! PROOFS. What every operation does to the outputs, the elements of S and the machine's time, from the three forms. -/

namespace Sys2Proof.Machine

/-! ### Completion and refusal (70_reset_and_hazards.md R228, D32) -/

theorem timeOf_of_groupOf {i : Instr} {raw : List Byte} {now : Nat}
    (h : groupOf i = some (raw, now)) : timeOf i = some now := by
  cases i <;> cases h <;> rfl

theorem receive_of_le {raw : List Byte} {now : Nat} {s : State} (hlen : raw.length ≤ 8)
    (hclock : s.clock ≤ now) :
    receive raw now s = .next ((s.at now).react (classify s.mode raw) raw now) :=
  receive_next.2 ⟨hlen, hclock, rfl⟩

theorem receive_of_lt {raw : List Byte} {now : Nat} {s : State} (hlen : raw.length ≤ 8)
    (hclock : now < s.clock) : receive raw now s = .refused .timeDecreased := by
  rw [receive, if_neg (Nat.not_lt.2 hlen), timed_of_lt _ hclock]

theorem receive_of_too_long {raw : List Byte} (now : Nat) (s : State) (hlen : 8 < raw.length) :
    receive raw now s = .refused .groupTooLong := if_pos hlen

theorem react_clock (s : State) (c : FrameClass) (raw : List Byte) (now : Nat) :
    (s.react c raw now).clock = s.clock := (react_frame s c raw now).2.1

theorem Answers.clock_eq {s t : State} (h : Answers s t) : t.clock = s.clock := by
  obtain ⟨o, -, rfl | rfl⟩ := h <;> rfl

theorem timeoutPoll_frame (s : State) (now thresholdMs : Nat) :
    (s.timeoutPoll now thresholdMs).params = s.params ∧
    (s.timeoutPoll now thresholdMs).clock = s.clock ∧
    (s.timeoutPoll now thresholdMs).inbox = s.inbox ∧
    (s.timeoutPoll now thresholdMs).outbox = s.outbox ∧
    (s.timeoutPoll now thresholdMs).S = { s.S with
      controllerLoggedIn := (s.timeoutPoll now thresholdMs).S.controllerLoggedIn
      seenSecondaryController := (s.timeoutPoll now thresholdMs).S.seenSecondaryController
      lastFrameReceived := (s.timeoutPoll now thresholdMs).S.lastFrameReceived } := by
  unfold State.timeoutPoll
  split <;> exact ⟨rfl, rfl, rfl, rfl, rfl⟩

theorem timeoutPoll_clock (s : State) (now thresholdMs : Nat) :
    (s.timeoutPoll now thresholdMs).clock = s.clock := (timeoutPoll_frame s now thresholdMs).2.1

theorem timeoutPoll_outbox (s : State) (now thresholdMs : Nat) :
    (s.timeoutPoll now thresholdMs).outbox = s.outbox := by
  obtain ⟨-, -, -, hout, -⟩ := timeoutPoll_frame s now thresholdMs
  exact hout

theorem txPoll_clock (s : State) (now : Nat) : (s.txPoll now).clock = s.clock :=
  (txPoll_frame s now).2.1

theorem TimedEffect.clock_eq {i : Instr} {now : Nat} {k : State → State}
    (h : TimedEffect i now k) (s : State) : (k s).clock = s.clock := by
  cases h with
  | polls hi hk => rw [hk, txPoll_clock]
  | pollsTimeout th hi hk => rw [hk, timeoutPoll_clock]
  | ticks th hi hk => rw [hk, timeoutPoll_clock, txPoll_clock]
  | recordsTime hi hk => rw [hk, State.withS_clock]
  | answers hk => exact (hk s).clock_eq

theorem UntimedEffect.clock_eq {i : Instr} {s t : State} (h : UntimedEffect i s t) :
    t.clock = s.clock := by
  cases h with
  | answers ht => exact ht.clock_eq
  | _ => rfl

/-- Settles O50: an operation of any of the three forms completes when its time and group are allowed. -/
theorem everyOperationCompletes : Obligations.EveryOperationCompletes := by
  intro s i htime hgroup
  cases execForm i s with
  | receives raw now hg hexec =>
    have hclock := htime now (timeOf_of_groupOf hg)
    exact ⟨_, hexec.trans (receive_of_le (hgroup raw now hg) hclock), by
      rwa [react_clock, State.at_clock]⟩
  | timed now k _ ht hexec heffect =>
    exact ⟨_, hexec.trans (timed_of_le k (htime now ht)), by
      rw [heffect.clock_eq, State.at_clock]; exact htime now ht⟩
  | untimed t _ _ hexec heffect => exact ⟨t, hexec, heffect.clock_eq.ge⟩

/-- Settles O51: both refusals are those of `timed` and of `receive`. -/
theorem brokenObligationsAreRefused : Obligations.BrokenObligationsAreRefused := by
  intro s i
  refine ⟨fun now htime hclock hlen => ?_, fun raw now hgroup hlen =>
    (exec_of_groupOf hgroup).trans (receive_of_too_long now s hlen)⟩
  cases execForm i s with
  | receives raw now' hg hexec =>
    obtain rfl : now' = now := by simpa [timeOf_of_groupOf hg] using htime
    exact hexec.trans (receive_of_lt (hlen raw hg) hclock)
  | timed now' k _ ht hexec _ =>
    obtain rfl : now' = now := by simpa [ht] using htime
    exact hexec.trans (timed_of_lt k hclock)
  | untimed t _ ht _ _ => exact absurd (ht.symm.trans htime) nofun

/-! ### What an operation that completes can have done -/

/-- The outcomes of an operation: the reaction to a group, a timed effect on the machine at its time, or an
untimed effect. -/
theorem exec_next_cases {i : Instr} {s t : State} (h : exec i s = .next t) :
    (∃ raw now, groupOf i = some (raw, now) ∧ raw.length ≤ 8 ∧ s.clock ≤ now ∧
      t = (s.at now).react (classify s.mode raw) raw now) ∨
    (∃ now k, timeOf i = some now ∧ s.clock ≤ now ∧ t = k (s.at now) ∧ TimedEffect i now k) ∨
    UntimedEffect i s t := by
  cases execForm i s with
  | receives raw now hgroup hexec =>
    obtain ⟨hlen, hclock, ht⟩ := receive_next.1 (hexec.symm.trans h)
    exact .inl ⟨raw, now, hgroup, hlen, hclock, ht⟩
  | timed now k _ htime hexec heffect =>
    obtain ⟨hclock, ht⟩ := timed_next.1 (hexec.symm.trans h)
    exact .inr (.inl ⟨now, k, htime, hclock, ht, heffect⟩)
  | untimed t' _ _ hexec heffect =>
    obtain rfl : t' = t := by simpa using hexec.symm.trans h
    exact .inr (.inr heffect)

/-! ### Role, address, connected, and the parameters -/

/-- `t` has the parameters, role, address and `connected` of `s`. -/
def SameIdentity (s t : State) : Prop :=
  t.params = s.params ∧ t.S.controllerIsPrimary = s.S.controllerIsPrimary ∧
    t.S.controllerAddress = s.S.controllerAddress ∧ t.S.connected = s.S.connected

theorem txPoll_sameIdentity (s : State) (now : Nat) : SameIdentity s (s.txPoll now) := by
  unfold State.txPoll
  split <;> exact ⟨rfl, rfl, rfl, rfl⟩

theorem timeoutPoll_sameIdentity (s : State) (now th : Nat) :
    SameIdentity s (s.timeoutPoll now th) := by
  unfold State.timeoutPoll
  split <;> exact ⟨rfl, rfl, rfl, rfl⟩

theorem SameIdentity.trans {s t u : State} (h : SameIdentity s t) (h' : SameIdentity t u) :
    SameIdentity s u := by
  obtain ⟨hp, hr, ha, hc⟩ := h
  obtain ⟨hp', hr', ha', hc'⟩ := h'
  exact ⟨hp'.trans hp, hr'.trans hr, ha'.trans ha, hc'.trans hc⟩

theorem at_sameIdentity (s : State) (now : Nat) : SameIdentity s (s.at now) := ⟨rfl, rfl, rfl, rfl⟩

theorem react_sameIdentity (s : State) (c : FrameClass) (raw : List Byte) (now : Nat) :
    SameIdentity s (s.react c raw now) := by
  obtain ⟨hp, -, -, -, hc, hr, ha, -⟩ := react_frame s c raw now
  exact ⟨hp, hr, ha, hc⟩

theorem Answers.sameIdentity {s t : State} (h : Answers s t) : SameIdentity s t := by
  obtain ⟨o, -, rfl | rfl⟩ := h <;> exact ⟨rfl, rfl, rfl, rfl⟩

theorem TimedEffect.sameIdentity {i : Instr} {now : Nat} {k : State → State}
    (h : TimedEffect i now k) (s : State) : SameIdentity s (k s) := by
  cases h with
  | polls hi hk => rw [hk]; exact txPoll_sameIdentity s now
  | pollsTimeout th hi hk => rw [hk]; exact timeoutPoll_sameIdentity s now th
  | ticks th hi hk =>
    rw [hk]
    exact (txPoll_sameIdentity s now).trans (timeoutPoll_sameIdentity _ now th)
  | recordsTime hi hk => rw [hk]; exact ⟨rfl, rfl, rfl, rfl⟩
  | answers hk => exact (hk s).sameIdentity

/-- Every operation but CONNECT keeps role, address and `connected`. -/
theorem exec_sameIdentity {i : Instr} {s t : State} (h : exec i s = .next t)
    (hi : ∀ v, i ≠ .connect v) : SameIdentity s t := by
  obtain ⟨raw, now, -, -, -, rfl⟩ | ⟨now, k, -, -, rfl, heffect⟩ | heffect := exec_next_cases h
  · exact (at_sameIdentity s now).trans (react_sameIdentity _ _ raw now)
  · exact (at_sameIdentity s now).trans (heffect.sameIdentity _)
  · cases heffect with
    | connects v hv => exact absurd hv (hi v)
    | answers ht => exact ht.sameIdentity
    | _ => exact ⟨rfl, rfl, rfl, rfl⟩

theorem exec_connect (v : Bool) (s : State) :
    exec (.connect v) s = .next (s.withS (s.S.connect s.params v)) := rfl

theorem exec_reset (s : State) : exec .reset s = .next (s.withS s.S.resetSession) := rfl

theorem exec_connect_next {v : Bool} {s t : State} (h : exec (.connect v) s = .next t) :
    t = s.withS (s.S.connect s.params v) := by
  simpa using h.symm.trans (exec_connect v s)

/-- Settles O48: CONNECT gives the role, and every other operation keeps the identity. -/
theorem roleIsFixedByConnectAlone : Obligations.RoleIsFixedByConnectAlone := by
  intro s t i h
  by_cases hi : ∃ v, i = .connect v
  · obtain ⟨v, rfl⟩ := hi
    obtain rfl := exec_connect_next h
    refine ⟨rfl, fun w hw => ?_, fun hne => absurd rfl (hne v)⟩
    cases hw
    rfl
  · have hne : ∀ v, i ≠ .connect v := fun v hv => hi ⟨v, hv⟩
    obtain ⟨hparams, hrest⟩ := exec_sameIdentity h hne
    exact ⟨hparams, fun v hv => absurd hv (hne v), fun _ => hrest⟩

/-! ### The writers of the other elements (10_state.md R38) -/

theorem Answers.S_eq {s t : State} (h : Answers s t) : t.S = s.S := by
  obtain ⟨o, -, rfl | rfl⟩ := h <;> rfl

theorem react_updateState (s : State) (c : FrameClass) (raw : List Byte) (now : Nat) :
    (s.react c raw now).S.updateState = s.S.updateState := by
  cases c <;> rfl

/-- Settles O49: by the outcomes of the operation; each element an outcome changes names a writer, and the others are as
before. -/
theorem eachElementHasItsWriters : Obligations.EachElementHasItsWriters := by
  intro s t i h
  obtain ⟨raw, now, hgroup, -, -, rfl⟩ | ⟨now, k, -, -, rfl, heffect⟩ | heffect :=
    exec_next_cases h
  · have hkeep := react_updateState (s.at now) (classify s.mode raw) raw now
    simp [hgroup, hkeep]
  · cases heffect with
    | polls hi hk =>
      obtain ⟨-, -, -, -, hS⟩ := txPoll_frame (s.at now) now
      rw [hk, hS]
      simp [hi]
    | pollsTimeout th hi hk =>
      obtain ⟨-, -, -, -, hS⟩ := timeoutPoll_frame (s.at now) now th
      rw [hk, hS]
      simp [hi]
    | ticks th hi hk =>
      obtain ⟨-, -, -, -, hS⟩ := txPoll_frame (s.at now) now
      obtain ⟨-, -, -, -, hT⟩ := timeoutPoll_frame ((s.at now).txPoll now) now th
      rw [hk, hT, hS]
      simp [hi]
    | recordsTime hi hk => simp [hi, hk]
    | answers hk => simp [(hk (s.at now)).S_eq]
  · cases heffect with
    | stages f v hi => simp [State.staged, hi]
    | repliesStatus R hi hR => simp [hi]
    | repliesLogin R hi hR => simp [hi]
    | connects v hi => simp [hi]
    | resets hi => simp [hi]
    | applies R hi => simp [hi]
    | answers ht => simp [ht.S_eq]
    | nothing => simp

/-! ### The guard law (42_transport_timer.md R141, R145) -/

/-- From `s` to `t` the outputs are appended to, by at most one, and a transmission among what is appended is the queued
reply, sent once at a time that is at least the guard interval after the last addressed frame. -/
def KeepsGuard (s t : State) (now : Nat) : Prop :=
  ∃ os : List Output, t.outbox = s.outbox ++ os ∧ os.length ≤ 1 ∧
    ∀ w : Frame, Output.tx w ∈ os →
      w = s.S.txBuf ∧ s.S.pendingFrame = true ∧ t.S.pendingFrame = false ∧
        s.params.guardMs ≤ now - s.S.lastFrameReceived

/-- `t` has the outputs of `s` and at most one more, which is no transmission. -/
def EmitsNoTx (s t : State) : Prop :=
  t.outbox = s.outbox ∨ ∃ o : Output, o.isTx = false ∧ t.outbox = s.outbox ++ [o]

theorem Answers.emitsNoTx {s t : State} (h : Answers s t) : EmitsNoTx s t := by
  obtain ⟨o, ho, rfl | rfl⟩ := h <;> exact .inr ⟨o, ho, rfl⟩

theorem EmitsNoTx.exists_outputs {s t : State} (h : EmitsNoTx s t) : ∃ os : List Output,
    t.outbox = s.outbox ++ os ∧ os.length ≤ 1 ∧ ∀ w : Frame, Output.tx w ∉ os := by
  obtain h | ⟨o, ho, h⟩ := h
  · exact ⟨[], by simpa using h, by simp, by simp⟩
  · refine ⟨[o], h, by simp, fun w hw => ?_⟩
    obtain rfl := List.mem_singleton.1 hw
    exact nomatch ho

theorem EmitsNoTx.keepsGuard {s t : State} (h : EmitsNoTx s t) (now : Nat) :
    KeepsGuard s t now := by
  obtain ⟨os, hos, hlen, hno⟩ := h.exists_outputs
  exact ⟨os, hos, hlen, fun w hw => absurd hw (hno w)⟩

theorem react_emitsNoTx (s : State) (c : FrameClass) (raw : List Byte) (now : Nat) :
    EmitsNoTx s (s.react c raw now) := by
  cases c with
  | error => exact .inr ⟨_, rfl, rfl⟩
  | _ => exact .inl rfl

theorem txPoll_keepsGuard (s : State) (now : Nat) : KeepsGuard s (s.txPoll now) now := by
  rw [txPoll_eq]
  split
  next h =>
    refine ⟨[.tx s.S.txBuf], rfl, by simp, fun w hw => ?_⟩
    obtain rfl : w = s.S.txBuf := by simpa using hw
    exact ⟨rfl, h.1, rfl, h.2⟩
  next => exact ⟨[], by simp, by simp, by simp⟩

/-- The timeout after a TX_POLL emits nothing and leaves `pendingFrame` as it is. -/
theorem KeepsGuard.timeoutPoll {s t : State} {now : Nat} (h : KeepsGuard s t now) (th : Nat) :
    KeepsGuard s (t.timeoutPoll now th) now := by
  obtain ⟨-, -, -, hout, hS⟩ := timeoutPoll_frame t now th
  obtain ⟨os, hos, hlen, htx⟩ := h
  exact ⟨os, hout.trans hos, hlen, by rw [hS]; exact htx⟩

theorem TimedEffect.keepsGuard {i : Instr} {now : Nat} {k : State → State}
    (h : TimedEffect i now k) (s : State) : KeepsGuard s (k s) now := by
  cases h with
  | polls hi hk => rw [hk]; exact txPoll_keepsGuard s now
  | pollsTimeout th hi hk =>
    rw [hk]
    exact EmitsNoTx.keepsGuard (.inl (timeoutPoll_outbox s now th)) now
  | ticks th hi hk => rw [hk]; exact (txPoll_keepsGuard s now).timeoutPoll th
  | recordsTime hi hk =>
    rw [hk]
    exact EmitsNoTx.keepsGuard (s := s) (.inl rfl) now
  | answers hk => exact (hk s).emitsNoTx.keepsGuard now

theorem UntimedEffect.emitsNoTx {i : Instr} {s t : State} (h : UntimedEffect i s t) :
    EmitsNoTx s t := by
  cases h with
  | applies R hi => exact .inr ⟨_, rfl, rfl⟩
  | answers ht => exact ht.emitsNoTx
  | _ => exact .inl rfl

/-- Settles O21: only a timed effect can transmit, and each keeps the guard at its time. -/
theorem everyTransmissionKeepsTheGuard : Obligations.EveryTransmissionKeepsTheGuard := by
  intro s t i h
  obtain ⟨raw, now, -, -, -, rfl⟩ | ⟨now, k, htime, -, rfl, heffect⟩ | heffect :=
    exec_next_cases h
  · obtain ⟨os, hos, hlen, hno⟩ :=
      (react_emitsNoTx (s.at now) (classify s.mode raw) raw now).exists_outputs
    exact ⟨os, hos, hlen, fun w hw => absurd hw (hno w)⟩
  · obtain ⟨os, hos, hlen, htx⟩ := heffect.keepsGuard (s.at now)
    refine ⟨os, hos, hlen, fun w hw => ?_⟩
    obtain ⟨hw, hpending, hsent, hguard⟩ := htx w hw
    rw [heffect.clock_eq, State.at_clock]
    exact ⟨hw, hpending, hsent, htime, hguard⟩
  · obtain ⟨os, hos, hlen, hno⟩ := heffect.emitsNoTx.exists_outputs
    exact ⟨os, hos, hlen, fun w hw => absurd hw (hno w)⟩

end Sys2Proof.Machine
end

section
/-! PROOFS. 40_codec.md: the bits that ENCODE writes and DECODE reads, and the round trips between them. -/

namespace Sys2Proof

/-! ### The bits of `merge` and `extract` (00_scope.md R13) -/

theorem getLsbD_merge (b m v : Byte) (o k : Nat) :
    (merge b m o v).getLsbD k =
      if m.getLsbD k = true then (v <<< o).getLsbD k else b.getLsbD k := by
  by_cases hk : k < 8
  · simp only [merge, BitVec.getLsbD_or, BitVec.getLsbD_and, BitVec.getLsbD_not, hk, decide_true]
    cases m.getLsbD k <;> simp
  · simp [BitVec.getLsbD_of_ge _ _ (Nat.not_lt.1 hk)]

theorem getLsbD_extract (b m : Byte) (o k : Nat) :
    (extract b m o).getLsbD k = (b.getLsbD (o + k) && m.getLsbD (o + k)) := by
  simp [extract]

/-! ### Legal places (00_scope.md R8) -/

theorem Place.wf_iff (p : Place) : p.wf = true ↔
    3 ≤ p.idx.val ∧ p.mask ≠ 0 ∧ p.mask = BitVec.ofNat 8 (2 ^ popcount p.mask - 1) <<< p.off := by
  simp [Place.wf, and_assoc]

theorem popcount_le (m : Byte) : popcount m ≤ 8 :=
  List.countP_le_length.trans_eq (List.length_range (n := 8))

/-- A run of `w` ones that loses none when it is shifted by `o` stays within the byte. -/
theorem add_le_of_popcount_run : ∀ w ≤ 8, ∀ o < 8,
    popcount (BitVec.ofNat 8 (2 ^ w - 1) <<< o) = w → o + w ≤ 8 := by
  decide

namespace Place

variable {p : Place}

theorem off_lt (h : p.wf = true) : p.off < 8 := by
  obtain ⟨-, hne, hmask⟩ := p.wf_iff.1 h
  by_contra hoff
  exact hne (hmask.trans (BitVec.shiftLeft_eq_zero (Nat.not_lt.1 hoff)))

theorem off_add_popcount_le (h : p.wf = true) : p.off + popcount p.mask ≤ 8 := by
  obtain ⟨-, -, hmask⟩ := p.wf_iff.1 h
  exact add_le_of_popcount_run _ (popcount_le _) _ (off_lt h) (congrArg popcount hmask.symm)

/-- The mask of a legal place is the run of its width from its shift on. -/
theorem getLsbD_mask (h : p.wf = true) (k : Nat) :
    p.mask.getLsbD k = true ↔ p.off ≤ k ∧ k < p.off + popcount p.mask := by
  obtain ⟨-, -, hmask⟩ := p.wf_iff.1 h
  have hle := off_add_popcount_le h
  have hbit := congrArg (fun m : Byte => m.getLsbD k) hmask
  simp only [BitVec.getLsbD_shiftLeft, BitVec.getLsbD_ofNat, Nat.testBit_two_pow_sub_one] at hbit
  simp only [hbit, Bool.and_eq_true, Bool.not_eq_true', decide_eq_true_eq, decide_eq_false_iff_not]
  omega

/-- An extracted value fits the width of its mask. -/
theorem extractAt_lt (h : p.wf = true) (b : Frame) :
    (b.extractAt p).toNat < 2 ^ popcount p.mask := by
  refine Nat.lt_pow_two_of_testBit _ fun k hk => ?_
  rw [BitVec.testBit_toNat, Frame.extractAt, getLsbD_extract, Bool.and_eq_false_iff]
  right
  rw [← Bool.not_eq_true, getLsbD_mask h]
  omega

end Place

/-! ### Legal layouts (00_scope.md R8) -/

theorem ControlFrame.fits_iff (L : Layout) (F : ControlFrame) :
    F.fits L = true ↔ ∀ f : BodyField, (F.body f).toNat < 2 ^ L.width f := by
  simp [ControlFrame.fits, BodyField.mem_all]

/-- The field `f` covers bit `k` of byte `i`. -/
def Layout.Covers (L : Layout) (f : BodyField) (i : Fin 8) (k : Nat) : Prop :=
  (L.place f).idx = i ∧ (L.place f).mask.getLsbD k = true

namespace Layout

variable {L : Layout}

theorem wf_iff (L : Layout) : L.wf = true ↔
    (∀ f, (L.place f).wf = true) ∧ (∀ f g, f ≠ g → (L.place f).disjoint (L.place g) = true) ∧
    L.width .onOff = 1 ∧ L.width .controllerPresent = 1 ∧ 2 ≤ L.width .updateMagic ∧
    3 ≤ L.width .acMode ∧ 3 ≤ L.width .fanMode := by
  simp [Layout.wf, BodyField.mem_all, and_assoc, or_iff_not_imp_left]

theorem place_wf (h : L.wf = true) (f : BodyField) : (L.place f).wf = true :=
  (L.wf_iff.1 h).1 f

theorem width_controllerPresent (h : L.wf = true) : L.width .controllerPresent = 1 := by
  obtain ⟨-, -, -, hwidth, -⟩ := L.wf_iff.1 h
  exact hwidth

theorem two_le_width_updateMagic (h : L.wf = true) : 2 ≤ L.width .updateMagic := by
  obtain ⟨-, -, -, -, hwidth, -⟩ := L.wf_iff.1 h
  exact hwidth

theorem three_le_idx (h : L.wf = true) (f : BodyField) : 3 ≤ (L.place f).idx.val :=
  ((L.place f).wf_iff.1 (place_wf h f)).1

/-- No bit is shared (00_scope.md R8): at most one field covers it. -/
theorem Covers.unique (h : L.wf = true) {f g : BodyField} {i : Fin 8} {k : Nat}
    (hf : L.Covers f i k) (hg : L.Covers g i k) : f = g := by
  obtain ⟨hfi, hfk⟩ := hf
  obtain ⟨hgi, hgk⟩ := hg
  by_contra hne
  have hdisjoint := (L.wf_iff.1 h).2.1 f g hne
  simp only [Place.disjoint, hfi, hgi, bne_self_eq_false, Bool.false_or, beq_iff_eq] at hdisjoint
  have hbit := congrArg (fun m : Byte => m.getLsbD k) hdisjoint
  simp [hfk, hgk] at hbit

theorem Covers.three_le (h : L.wf = true) {f : BodyField} {i : Fin 8} {k : Nat}
    (hf : L.Covers f i k) : 3 ≤ i.val := hf.1 ▸ three_le_idx h f

end Layout

/-! ### The bits of an encoded frame (40_codec.md R103) -/

@[simp] theorem Frame.get_zero (i : Fin 8) : Frame.zero.get i = 0 := by
  fin_cases i <;> rfl

theorem getLsbD_get_mergeAt (b : Frame) (p : Place) (v : Byte) (i : Fin 8) (k : Nat) :
    ((b.mergeAt p v).get i).getLsbD k =
      if p.idx = i ∧ p.mask.getLsbD k = true then (v <<< p.off).getLsbD k
      else (b.get i).getLsbD k := by
  rw [Frame.get_mergeAt]
  by_cases hi : p.idx = i <;> simp [hi, getLsbD_merge]

section
variable {L : Layout} (F : ControlFrame) {i : Fin 8} {k : Nat}

theorem foldl_mergeAt_of_not_covers {l : List BodyField} (hl : ∀ f ∈ l, ¬ L.Covers f i k)
    (b : Frame) :
    ((l.foldl (fun b f => b.mergeAt (L.place f) (F.body f)) b).get i).getLsbD k =
      (b.get i).getLsbD k := by
  induction l generalizing b with
  | nil => rfl
  | cons g l ih =>
    rw [List.foldl_cons, ih fun f hf => hl f (List.mem_cons_of_mem g hf), getLsbD_get_mergeAt]
    exact if_neg (hl g List.mem_cons_self)

theorem foldl_mergeAt_of_covers (h : L.wf = true) {f : BodyField} (hf : L.Covers f i k)
    {l : List BodyField} (hl : f ∈ l) (b : Frame) :
    ((l.foldl (fun b f => b.mergeAt (L.place f) (F.body f)) b).get i).getLsbD k =
      (F.body f <<< (L.place f).off).getLsbD k := by
  induction l generalizing b with
  | nil => exact absurd hl List.not_mem_nil
  | cons g l ih =>
    rw [List.foldl_cons]
    by_cases hmem : f ∈ l
    · exact ih hmem _
    · obtain rfl : f = g := (List.mem_cons.1 hl).resolve_right hmem
      have hrest : ∀ g ∈ l, ¬ L.Covers g i k := fun g hg hc => hmem (hf.unique h hc ▸ hg)
      rw [foldl_mergeAt_of_not_covers F hrest, getLsbD_get_mergeAt]
      exact if_pos hf

theorem getLsbD_encodeFrame_of_covers (h : L.wf = true) {f : BodyField} (hf : L.Covers f i k) :
    ((encodeFrame L F).get i).getLsbD k = (F.body f <<< (L.place f).off).getLsbD k :=
  foldl_mergeAt_of_covers F h hf f.mem_all _

theorem getLsbD_encodeFrame_of_not_covers (hf : ∀ f, ¬ L.Covers f i k) :
    ((encodeFrame L F).get i).getLsbD k = ((encodeHeader F).get i).getLsbD k :=
  foldl_mergeAt_of_not_covers F (fun f _ => hf f) _

theorem encodeHeader_get_of_three_le (hi : 3 ≤ i.val) : (encodeHeader F).get i = 0 := by
  have hne : ∀ j : Fin 8, j.val < 3 → j ≠ i := fun j hj hji => by omega
  simp only [encodeHeader, Frame.get_mergeAt, hne 0 (by decide), hne 1 (by decide),
    hne 2 (by decide), if_false, Frame.get_zero]

/-- No body field reaches a header byte. -/
theorem encodeFrame_get_of_lt_three (h : L.wf = true) (hi : i.val < 3) :
    (encodeFrame L F).get i = (encodeHeader F).get i := by
  refine BitVec.eq_of_getLsbD_eq fun k _ => getLsbD_encodeFrame_of_not_covers F fun f hf => ?_
  exact absurd (hf.three_le h) (Nat.not_le.2 hi)

end

/-! ### The header bytes -/

section
variable {L : Layout} (h : L.wf = true) (F : ControlFrame)
include h

theorem encodeFrame_b0 : (encodeFrame L F).b0 = F.messageSource := by
  have hget : (encodeFrame L F).get 0 = (encodeHeader F).get 0 :=
    encodeFrame_get_of_lt_three F h (by decide)
  refine hget.trans (BitVec.eq_of_getLsbD_eq fun k hk => ?_)
  simp only [encodeHeader, getLsbD_get_mergeAt]
  interval_cases k <;> simp

theorem encodeFrame_b1 : (encodeFrame L F).b1 =
    (F.unknownBit.setWidth 8 <<< 7) ||| (F.messageDest.setWidth 8 &&& 0x5F)
      ||| (F.loginBit.setWidth 8 <<< 5) := by
  have hget : (encodeFrame L F).get 1 = (encodeHeader F).get 1 :=
    encodeFrame_get_of_lt_three F h (by decide)
  refine hget.trans (BitVec.eq_of_getLsbD_eq fun k hk => ?_)
  simp only [encodeHeader, getLsbD_get_mergeAt]
  interval_cases k <;> simp

theorem encodeFrame_b2 : (encodeFrame L F).b2 =
    (F.messageType.setWidth 8 <<< 4) ||| (F.writeBit.setWidth 8 <<< 3) := by
  have hget : (encodeFrame L F).get 2 = (encodeHeader F).get 2 :=
    encodeFrame_get_of_lt_three F h (by decide)
  refine hget.trans (BitVec.eq_of_getLsbD_eq fun k hk => ?_)
  simp only [encodeHeader, getLsbD_get_mergeAt]
  interval_cases k <;> simp

end

/-! ### The round trips (40_codec.md, "Laws of the codec") -/

/-- The bits of an extraction at a legal place are those of its run in the byte. -/
theorem getLsbD_extractAt {p : Place} (hp : p.wf = true) (b : Frame) (k : Nat) :
    (b.extractAt p).getLsbD k =
      ((b.get p.idx).getLsbD (p.off + k) && decide (k < popcount p.mask)) := by
  have hmask : p.mask.getLsbD (p.off + k) = decide (k < popcount p.mask) := by
    rw [Bool.eq_iff_iff, Place.getLsbD_mask hp, decide_eq_true_iff]
    omega
  rw [Frame.extractAt, getLsbD_extract, hmask]

theorem getLsbD_eq_false_of_lt_two_pow {v : Byte} {w k : Nat} (hv : v.toNat < 2 ^ w) (hk : w ≤ k) :
    v.getLsbD k = false := by
  rw [← BitVec.testBit_toNat]
  exact Nat.testBit_lt_two_pow (hv.trans_le (Nat.pow_le_pow_right (by decide) hk))

/-- The field `f` of an encoded record, read back. -/
theorem extractAt_encodeFrame {L : Layout} (h : L.wf = true) {F : ControlFrame}
    (hF : F.fits L = true) (f : BodyField) :
    (encodeFrame L F).extractAt (L.place f) = F.body f := by
  have hp := Layout.place_wf h f
  have hle := Place.off_add_popcount_le hp
  refine BitVec.eq_of_getLsbD_eq fun k hk8 => ?_
  rw [getLsbD_extractAt hp]
  by_cases hk : k < popcount (L.place f).mask
  · have hc : L.Covers f (L.place f).idx ((L.place f).off + k) :=
      ⟨rfl, (Place.getLsbD_mask hp _).2 (by omega)⟩
    have hbyte : (L.place f).off + k < 8 := by omega
    rw [getLsbD_encodeFrame_of_covers F h hc]
    simp [hk, hk8, hbyte]
  · have hwide := getLsbD_eq_false_of_lt_two_pow ((F.fits_iff L).1 hF f) (Nat.not_lt.1 hk)
    simp [hk, hwide]

/-- Read back, the header of an encoded record has `loginBit` in bit 5 of `messageDest` (D6). -/
theorem decodeFrame_encodeFrame {L : Layout} (h : L.wf = true) {F : ControlFrame}
    (hF : F.fits L = true) : decodeFrame L (encodeFrame L F) =
      { F with messageDest := (F.messageDest &&& 0x5F) ||| (F.loginBit.setWidth 7 <<< 5) } := by
  refine ControlFrame.ext_body ?_ ?_ ?_ ?_ ?_ ?_ fun f => ?_
  · simp [encodeFrame_b0 h]
  · rw [decodeFrame_messageDest, encodeFrame_b1 h]
    refine BitVec.eq_of_getLsbD_eq fun k hk => ?_
    interval_cases k <;> simp
  · rw [decodeFrame_messageType, encodeFrame_b2 h]
    refine BitVec.eq_of_getLsbD_eq fun k hk => ?_
    interval_cases k <;> simp
  · rw [decodeFrame_writeBit, encodeFrame_b2 h]
    refine BitVec.eq_of_getLsbD_eq fun k hk => ?_
    interval_cases k; simp
  · rw [decodeFrame_loginBit, encodeFrame_b1 h]
    refine BitVec.eq_of_getLsbD_eq fun k hk => ?_
    interval_cases k; simp
  · rw [decodeFrame_unknownBit, encodeFrame_b1 h]
    refine BitVec.eq_of_getLsbD_eq fun k hk => ?_
    interval_cases k; simp
  · rw [body_decodeFrame, extractAt_encodeFrame h hF]
    cases f <;> rfl

/-- A canonical record has `loginBit` in bit 5 of `messageDest` already (30_encoding.md R76). -/
theorem ControlFrame.canonical_iff (F : ControlFrame) :
    F.canonical = true ↔
      (F.messageDest &&& 0x5F) ||| (F.loginBit.setWidth 7 <<< 5) = F.messageDest := by
  have hsplit : ∀ (d : BitVec 7) (l : BitVec 1),
      l = d.extractLsb' 5 1 ↔ (d &&& 0x5F) ||| (l.setWidth 7 <<< 5) = d := by
    decide
  rw [← hsplit, ControlFrame.canonical, beq_iff_eq]

theorem decodeFrame_encodeFrame_of_canonical {L : Layout} (h : L.wf = true) {F : ControlFrame}
    (hF : F.fits L = true) (hcanonical : F.canonical = true) :
    decodeFrame L (encodeFrame L F) = F := by
  rw [decodeFrame_encodeFrame h hF, F.canonical_iff.1 hcanonical]

/-- Settles O5: the header comes back from bytes 0 to 2, each body field from the run of bits it covers. -/
theorem recordRoundTrip : Obligations.RecordRoundTrip := fun _ _ h hF =>
  ⟨decodeFrame_encodeFrame_of_canonical h hF, decodeFrame_encodeFrame h hF⟩

/-! ### The closed form of ENCODE (40_codec.md R103) -/

/-- Bit `k` of an or over the elements of a list that satisfy a test. -/
theorem getLsbD_foldl_or {α : Type} (p : α → Prop) [DecidablePred p] (g : α → Byte) (l : List α)
    (b : Byte) (k : Nat) :
    (l.foldl (fun acc x => if p x then acc ||| g x else acc) b).getLsbD k = true ↔
      b.getLsbD k = true ∨ ∃ x ∈ l, p x ∧ (g x).getLsbD k = true := by
  induction l generalizing b with
  | nil => simp
  | cons x l ih =>
    rw [List.foldl_cons, ih]
    by_cases hx : p x <;> simp [hx, or_assoc]

theorem encodeFrame_get_of_three_le {L : Layout} (h : L.wf = true) (F : ControlFrame) {i : Fin 8}
    (hi : 3 ≤ i.val) : (encodeFrame L F).get i = BodyField.all.foldl (fun acc f =>
      if (L.place f).idx = i then
        acc ||| ((F.body f <<< (L.place f).off) &&& (L.place f).mask)
      else acc) 0 := by
  refine BitVec.eq_of_getLsbD_eq fun k _ => Bool.eq_iff_iff.2 ?_
  rw [getLsbD_foldl_or]
  by_cases hcover : ∃ f, L.Covers f i k
  · obtain ⟨f, hf⟩ := hcover
    rw [getLsbD_encodeFrame_of_covers F h hf]
    constructor
    · intro hbit
      exact .inr ⟨f, f.mem_all, hf.1, by rw [BitVec.getLsbD_and, hbit, hf.2]; rfl⟩
    · rintro (hzero | ⟨g, -, hg, hbit⟩)
      · simp at hzero
      · rw [BitVec.getLsbD_and, Bool.and_eq_true] at hbit
        obtain rfl : f = g := hf.unique h ⟨hg, hbit.2⟩
        exact hbit.1
  · have hnone : ∀ f, ¬ L.Covers f i k := fun f hf => hcover ⟨f, hf⟩
    rw [getLsbD_encodeFrame_of_not_covers F hnone, encodeHeader_get_of_three_le F hi]
    constructor
    · simp
    · rintro (hzero | ⟨g, -, hg, hbit⟩)
      · exact hzero
      · rw [BitVec.getLsbD_and, Bool.and_eq_true] at hbit
        exact absurd ⟨hg, hbit.2⟩ (hnone g)

/-- Settles O2: bytes 0 to 2 are the header's and the others the or of the body fields placed in them. -/
theorem encodeAnswersTheClosedForm : Obligations.EncodeAnswersTheClosedForm := fun s F h =>
  ⟨encodeFrame s.params.layout F, Machine.exec_cmdEncode s F, rfl, encodeFrame_b0 h F,
    encodeFrame_b1 h F, encodeFrame_b2 h F, fun _ hi => encodeFrame_get_of_three_le h F hi⟩

/-! ### FIELDMASK and the byte side (40_codec.md R107) -/

/-- The bytes that body fields can be placed in. -/
theorem body_index_cases {i : Fin 8} (hi : 3 ≤ i.val) :
    i = 3 ∨ i = 4 ∨ i = 5 ∨ i = 6 ∨ i = 7 := by
  omega

theorem fieldMask_of_three_le (L : Layout) {i : Fin 8} (hi : 3 ≤ i.val) :
    fieldMask L i = BodyField.all.foldl (fun m f =>
      if (L.place f).idx = i then m ||| (L.place f).mask else m) 0 := by
  obtain rfl | rfl | rfl | rfl | rfl := body_index_cases hi <;> rfl

/-- In bytes 3 to 7 `FIELDMASK` holds the covered bits. -/
theorem getLsbD_fieldMask (L : Layout) {i : Fin 8} (hi : 3 ≤ i.val) (k : Nat) :
    (fieldMask L i).getLsbD k = true ↔ ∃ f, L.Covers f i k := by
  rw [fieldMask_of_three_le L hi, getLsbD_foldl_or]
  simp [BodyField.mem_all, Layout.Covers]

theorem encodeFrame_decodeFrame_get {L : Layout} (h : L.wf = true) (b : Frame) (i : Fin 8) :
    (encodeFrame L (decodeFrame L b)).get i = b.get i &&& fieldMask L i := by
  refine BitVec.eq_of_getLsbD_eq fun k hk => ?_
  rw [BitVec.getLsbD_and]
  by_cases hi : 3 ≤ i.val
  · by_cases hcover : ∃ f, L.Covers f i k
    · obtain ⟨f, hf⟩ := hcover
      have hp := Layout.place_wf h f
      obtain ⟨hoff, hwidth⟩ := (Place.getLsbD_mask hp k).1 hf.2
      have hmask := (getLsbD_fieldMask L hi k).2 ⟨f, hf⟩
      rw [getLsbD_encodeFrame_of_covers _ h hf, hmask, BitVec.getLsbD_shiftLeft, body_decodeFrame,
        getLsbD_extractAt hp, hf.1, Nat.add_sub_cancel' hoff]
      have hrun : k - (L.place f).off < popcount (L.place f).mask := by omega
      simp [hk, hrun, hoff]
    · have hmask : (fieldMask L i).getLsbD k = false :=
        Bool.eq_false_iff.2 fun hbit => hcover ((getLsbD_fieldMask L hi k).1 hbit)
      rw [getLsbD_encodeFrame_of_not_covers _ fun f hf => hcover ⟨f, hf⟩,
        encodeHeader_get_of_three_le _ hi, hmask]
      simp
  · have hheader : i = 0 ∨ i = 1 ∨ i = 2 := by omega
    obtain rfl | rfl | rfl := hheader
    · have hb := congrArg (fun x : Byte => x.getLsbD k) (encodeFrame_b0 h (decodeFrame L b))
      refine hb.trans ?_
      interval_cases k <;> simp [fieldMask, Frame.get]
    · have hb := congrArg (fun x : Byte => x.getLsbD k) (encodeFrame_b1 h (decodeFrame L b))
      refine hb.trans ?_
      interval_cases k <;> simp [fieldMask, Frame.get]
    · have hb := congrArg (fun x : Byte => x.getLsbD k) (encodeFrame_b2 h (decodeFrame L b))
      refine hb.trans ?_
      interval_cases k <;> simp [fieldMask, Frame.get]

/-- Settles O6: a covered bit comes back from its field, a bit of no field is 0. -/
theorem byteRoundTrip : Obligations.ByteRoundTrip :=
  ⟨fun _ b i h => encodeFrame_decodeFrame_get h b i, fun _ => ⟨rfl, rfl, rfl⟩,
    fun L _ k hi => getLsbD_fieldMask L hi k⟩

/-! ### The wire (40_codec.md R104, R105) -/

theorem wireDecodeFrame_wireEncodeFrame {L : Layout} (h : L.wf = true) {F : ControlFrame}
    (hF : F.fits L = true) (hcanonical : F.canonical = true) :
    wireDecodeFrame L (wireEncodeFrame L F) = F := by
  rw [wireDecodeFrame, wireEncodeFrame, invFrame_invFrame,
    decodeFrame_encodeFrame_of_canonical h hF hcanonical]

/-- Settles O7: the two inversions cancel, then the logical round trips hold. -/
theorem wireRoundTrip : Obligations.WireRoundTrip := by
  intro L w F h hF hcanonical
  refine ⟨wireDecodeFrame_wireEncodeFrame h hF hcanonical, fun i => ?_⟩
  rw [wireEncodeFrame, get_invFrame, wireDecodeFrame, encodeFrame_decodeFrame_get h, get_invFrame]

/-- The reserved bits of byte 2 belong to no field. -/
theorem decodeFrame_reserved {L : Layout} (h : L.wf = true) (b : Frame) (m : Byte) :
    decodeFrame L { b with b2 := b.b2 ^^^ (m &&& 0xC7) } = decodeFrame L b := by
  have hget : ∀ i : Fin 8, 3 ≤ i.val →
      ({ b with b2 := b.b2 ^^^ (m &&& 0xC7) } : Frame).get i = b.get i := by
    intro i hi
    obtain rfl | rfl | rfl | rfl | rfl := body_index_cases hi <;> rfl
  refine ControlFrame.ext_body rfl rfl ?_ ?_ rfl rfl fun f => ?_
  · simp only [decodeFrame_messageType]
    refine BitVec.eq_of_getLsbD_eq fun k hk => ?_
    interval_cases k <;> simp
  · simp only [decodeFrame_writeBit]
    refine BitVec.eq_of_getLsbD_eq fun k hk => ?_
    interval_cases k; simp
  · simp only [body_decodeFrame, Frame.extractAt, hget _ (Layout.three_le_idx h f)]

/-- Settles O8: the round trip inverts ENCODE, and no field reads a reserved bit. -/
theorem encodeInjectiveDecodeNot : Obligations.EncodeInjectiveDecodeNot := by
  intro L h
  refine ⟨fun F G hF hG hcF hcG heq => ?_, fun b m => decodeFrame_reserved h b m⟩
  rw [← decodeFrame_encodeFrame_of_canonical h hF hcF, heq,
    decodeFrame_encodeFrame_of_canonical h hG hcG]

end Sys2Proof
end

section
/-! PROOFS. 43_session_fsm.md R160 to R177: the class of a group, and what the reaction of each class does. -/

namespace Sys2Proof

/-! ### Well-formed parameters (00_scope.md R6 to R8) -/

theorem Params.wf_iff (P : Params) : P.wf = true ↔
    (P.addrUnit ≠ P.addrPrimary ∧ P.addrUnit ≠ P.addrSecondary ∧ P.addrPrimary ≠ P.addrSecondary) ∧
    (P.addrUnit.getLsbD 5 = false ∧ P.addrSecondary.getLsbD 5 = true) ∧
    (P.mtStatus ≠ P.mtLogin ∧ P.mtStatus ≠ P.mtError ∧ P.mtStatus ≠ P.mtReserved ∧
      P.mtLogin ≠ P.mtError ∧ P.mtLogin ≠ P.mtReserved ∧ P.mtError ≠ P.mtReserved) ∧
    P.layout.wf = true := by
  simp [Params.wf, and_assoc]

theorem Params.layout_wf {P : Params} (h : P.wf = true) : P.layout.wf = true := by
  obtain ⟨-, -, -, hL⟩ := P.wf_iff.1 h
  exact hL

/-- The four codes exhaust the two bits of the type. -/
theorem Params.messageType_cases {P : Params} (h : P.wf = true) (t : BitVec 2) :
    t = P.mtStatus ∨ t = P.mtLogin ∨ t = P.mtError ∨ t = P.mtReserved := by
  obtain ⟨-, -, hdistinct, -⟩ := P.wf_iff.1 h
  bv_omega

theorem decodeFrame_fits {L : Layout} (h : L.wf = true) (b : Frame) :
    (decodeFrame L b).fits L = true := by
  refine ((decodeFrame L b).fits_iff L).2 fun f => ?_
  rw [body_decodeFrame]
  exact Place.extractAt_lt (Layout.place_wf h f) b

/-- `controllerPresent` is one bit wide. -/
theorem controllerPresent_cases {L : Layout} (h : L.wf = true) (b : Frame) :
    (decodeFrame L b).controllerPresent = 0 ∨ (decodeFrame L b).controllerPresent = 1 := by
  have hlt := ((decodeFrame L b).fits_iff L).1 (decodeFrame_fits h b) .controllerPresent
  rw [Layout.width_controllerPresent h] at hlt
  change (decodeFrame L b).controllerPresent.toNat < 2 at hlt
  bv_omega

/-! ### The class of a full group, by its record (30_encoding.md R86) -/

/-- The class that the record of a full group gives it in a connected block. -/
def recordClass (m : Mode) (F : ControlFrame) : FrameClass :=
  if F.messageDest = m.own then
    if F.messageType = m.params.mtStatus then
      if F.controllerPresent = 1 then .statusCp1
      else if m.isPrimary then .statusCp0Pri
      else .statusCp0Sec
    else if F.messageType = m.params.mtLogin then .login
    else if F.messageType = m.params.mtError then .error
    else .reserved
  else if F.messageDest = m.params.addrSecondary then .observe
  else .other

theorem classify_of_full {m : Mode} {raw : List Byte} (hconn : m.connected = true)
    (hlen : 8 ≤ raw.length) :
    classify m raw = recordClass m (wireDecodeFrame m.params.layout (Frame.ofList raw)) := by
  rw [classify, if_neg (by simp [hconn]), if_neg (Nat.not_lt.2 hlen)]
  rfl

theorem classify_of_connected {m : Mode} (hconn : m.connected = true) (b : Frame) :
    classify m (invFrame b).toList = recordClass m (decodeFrame m.params.layout b) := by
  rw [classify_of_full hconn (Frame.toList_length _).ge, wireDecodeFrame_ofList_invFrame]

section
variable {m : Mode} {F : ControlFrame}

theorem recordClass_of_status (hown : F.messageDest = m.own)
    (htype : F.messageType = m.params.mtStatus) :
    recordClass m F = if F.controllerPresent = 1 then .statusCp1
      else if m.isPrimary then .statusCp0Pri else .statusCp0Sec := by
  rw [recordClass, if_pos hown, if_pos htype]

section
variable (h : m.params.wf = true) (hown : F.messageDest = m.own)
include h hown

theorem recordClass_of_login (htype : F.messageType = m.params.mtLogin) :
    recordClass m F = .login := by
  obtain ⟨-, -, ⟨hSL, -⟩, -⟩ := m.params.wf_iff.1 h
  rw [recordClass, if_pos hown, htype, if_neg hSL.symm, if_pos rfl]

theorem recordClass_of_error (htype : F.messageType = m.params.mtError) :
    recordClass m F = .error := by
  obtain ⟨-, -, ⟨-, hSE, -, hLE, -⟩, -⟩ := m.params.wf_iff.1 h
  rw [recordClass, if_pos hown, htype, if_neg hSE.symm, if_neg hLE.symm, if_pos rfl]

theorem recordClass_of_reserved (htype : F.messageType = m.params.mtReserved) :
    recordClass m F = .reserved := by
  obtain ⟨-, -, ⟨-, -, hSR, -, hLR, hER⟩, -⟩ := m.params.wf_iff.1 h
  rw [recordClass, if_pos hown, htype, if_neg hSR.symm, if_neg hLR.symm, if_neg hER.symm]

end

theorem recordClass_of_unaddressed (hown : F.messageDest ≠ m.own) :
    recordClass m F = if F.messageDest = m.params.addrSecondary then .observe else .other :=
  if_neg hown

theorem recordClass_of_observe (hdest : F.messageDest = m.params.addrSecondary)
    (hown : m.own ≠ m.params.addrSecondary) : recordClass m F = .observe := by
  rw [recordClass_of_unaddressed fun h => hown (h.symm.trans hdest), if_pos hdest]

end

/-- Settles O22: before CONNECT and for a short group the class is given; a full group's is that of its record, by
destination, then type. -/
theorem frameClassesHaveTheirConditions : Obligations.FrameClassesHaveTheirConditions := by
  intro m raw h F own status
  cases hconn : m.connected with
  | false => simp [Machine.classify_of_unconnected raw hconn, own, status, hconn]
  | true =>
    by_cases hlen : raw.length < 8
    · simp [Machine.classify_of_short hconn hlen, own, status, hlen]
    · have hfull : classify m raw = recordClass m F := classify_of_full hconn (Nat.not_lt.1 hlen)
      have hlen' := Nat.not_lt.1 hlen
      rw [hfull]
      by_cases hown : F.messageDest = m.own
      · obtain ⟨-, -, ⟨hSL, hSE, hSR, hLE, hLR, hER⟩, hL⟩ := m.params.wf_iff.1 h
        obtain htype | htype | htype | htype := Params.messageType_cases h F.messageType
        · have hcp : F.controllerPresent = 0 ∨ F.controllerPresent = 1 :=
            controllerPresent_cases hL _
          rw [recordClass_of_status hown htype]
          obtain hcp | hcp := hcp <;> cases hrole : m.isPrimary <;>
            simp [own, status, hconn, hlen, hlen', hown, htype, hcp, hSL, hSE, hSR]
        · rw [recordClass_of_login h hown htype]
          simp [own, status, hconn, hlen, hlen', hown, htype, hSL.symm, hLE, hLR]
        · rw [recordClass_of_error h hown htype]
          simp [own, status, hconn, hlen, hlen', hown, htype, hSE.symm, hLE.symm, hER]
        · rw [recordClass_of_reserved h hown htype]
          simp [own, status, hconn, hlen, hlen', hown, htype, hSR.symm, hLR.symm, hER.symm]
      · rw [recordClass_of_unaddressed hown]
        by_cases hsec : F.messageDest = m.params.addrSecondary
        · have hne : m.own ≠ m.params.addrSecondary := fun he => hown (hsec.trans he.symm)
          simp [own, status, hconn, hlen, hlen', hsec, hne, hne.symm]
        · simp [own, status, hconn, hlen, hlen', hown, hsec]

namespace Machine

/-! ### What each class of an addressed frame does (43_session_fsm.md R168 to R176) -/

section
variable {i : Instr} {b : Frame} {now : Nat} {s : State}

/-- A connected block that is given a full group in time does the reaction of its record's class. -/
theorem exec_of_record (hgroup : groupOf i = some ((invFrame b).toList, now))
    (hclock : s.clock ≤ now) (hconn : s.S.connected = true) {c : FrameClass}
    (hclass : recordClass s.mode (decodeFrame s.params.layout b) = c) :
    exec i s = .next ((s.at now).react c (invFrame b).toList now) := by
  have hc : classify s.mode (invFrame b).toList = c := (classify_of_connected hconn b).trans hclass
  rw [exec_of_groupOf hgroup, receive_of_le (Frame.toList_length _).le hclock, hc]

end

/-- Settles O25: the class is RX_STATUS_CP1, and the reply persisted and queued is the merged one. -/
theorem statusWithControllerPresent : Obligations.StatusWithControllerPresent := by
  intro s b now i hi F hclock hconn hown htype hcp R
  have hgroup : groupOf i = some ((invFrame b).toList, now) := by
    obtain ⟨rfl, -⟩ | ⟨rfl, -⟩ | rfl := hi <;> rfl
  have hclass : recordClass s.mode F = .statusCp1 :=
    (recordClass_of_status hown htype).trans (if_pos hcp)
  refine ⟨s.S.merged R, merged_isMerged s.S R, ?_⟩
  rw [exec_of_record hgroup hclock hconn hclass, react_statusCp1]
  rfl

/-- Settles O26: the class is RX_STATUS_CP0_PRI, whose base reply is the LOGIN frame. -/
theorem statusWithoutControllerPresentPrimary : Obligations.StatusWithoutControllerPresentPrimary := by
  intro s b now i hi F hclock hconn hrole hown htype hcp R
  have hgroup : groupOf i = some ((invFrame b).toList, now) := by
    obtain rfl | rfl := hi <;> rfl
  have hclass : recordClass s.mode F = .statusCp0Pri := by
    simp [recordClass_of_status (m := s.mode) hown htype, hcp, hrole]
  refine ⟨s.S.merged R, merged_isMerged s.S R, ?_⟩
  rw [exec_of_record hgroup hclock hconn hclass, react_statusCp0Pri]
  rfl

/-- Settles O27: the class is RX_STATUS_CP0_SEC, whose base reply has `updateMagic` 2. -/
theorem statusWithoutControllerPresentSecondary :
    Obligations.StatusWithoutControllerPresentSecondary := by
  intro s b now i hi F hclock hconn hrole hown htype hcp R
  have hgroup : groupOf i = some ((invFrame b).toList, now) := by
    obtain rfl | rfl := hi <;> rfl
  have hclass : recordClass s.mode F = .statusCp0Sec := by
    simp [recordClass_of_status (m := s.mode) hown htype, hcp, hrole]
  refine ⟨s.S.merged R, merged_isMerged s.S R, ?_⟩
  rw [exec_of_record hgroup hclock hconn hclass, react_statusCp0Sec]
  rfl

/-- Settles O28: the class is RX_LOGIN, which queues the echo only. -/
theorem loginIsEchoedWithoutMerge : Obligations.LoginIsEchoedWithoutMerge := by
  intro s b now i hi F C h hclock hconn hown htype R
  have hgroup : groupOf i = some ((invFrame b).toList, now) := by
    obtain ⟨rfl, -⟩ | ⟨rfl, -⟩ | rfl := hi <;> rfl
  have hclass : recordClass s.mode F = .login := recordClass_of_login h hown htype
  rw [exec_of_record hgroup hclock hconn hclass, react_login]
  rfl

/-- Settles O29: the class is RX_ERROR, which logs the record. -/
theorem errorIsLoggedAndDropped : Obligations.ErrorIsLoggedAndDropped := by
  intro s b now i hi F h hclock hconn hown htype
  have hgroup : groupOf i = some ((invFrame b).toList, now) := by
    obtain ⟨rfl, -⟩ | ⟨rfl, -⟩ | rfl := hi <;> rfl
  have hclass : recordClass s.mode F = .error := recordClass_of_error h hown htype
  rw [exec_of_record hgroup hclock hconn hclass, react_error]
  rfl

/-- Settles O30: the class is RX_RESERVED, which records the time. -/
theorem reservedTypeOnlyRecordsTheTime : Obligations.ReservedTypeOnlyRecordsTheTime := by
  intro s b now i hi F h hclock hconn hown htype
  have hgroup : groupOf i = some ((invFrame b).toList, now) := by
    obtain ⟨rfl, -⟩ | ⟨rfl, -⟩ | rfl := hi <;> rfl
  have hclass : recordClass s.mode F = .reserved := recordClass_of_reserved h hown htype
  rw [exec_of_record hgroup hclock hconn hclass, react_reserved]
  rfl

/-! ### Frames that are not addressed to the block (43_session_fsm.md R160, R162) -/

/-- Settles O31: the class is RX_OBSERVE. -/
theorem observedFrameMarksTheSecondary : Obligations.ObservedFrameMarksTheSecondary := by
  intro s b now i hi F hclock hconn hdest hown
  have hgroup : groupOf i = some ((invFrame b).toList, now) := by
    obtain rfl | rfl := hi <;> rfl
  have hclass : recordClass s.mode F = .observe := recordClass_of_observe hdest hown
  rw [exec_of_record hgroup hclock hconn hclass, react_observe]
  rfl

/-- Settles O34: every group is of class RX_UNCONNECTED before CONNECT (D26). -/
theorem unconnectedGroupIsDropped : Obligations.UnconnectedGroupIsDropped := by
  intro s raw now i hi hclock hconn hlen
  have hgroup : groupOf i = some (raw, now) := by
    obtain rfl | rfl := hi <;> rfl
  have hclass : classify s.mode raw = .unconnected := classify_of_unconnected raw hconn
  rw [exec_of_groupOf hgroup, receive_of_le hlen hclock, hclass, react_unconnected]
  rfl

theorem classify_of_unaddressed {m : Mode} {raw : List Byte}
    (hown : (wireDecodeFrame m.params.layout (Frame.ofList raw)).messageDest ≠ m.own) :
    classify m raw = .unconnected ∨ classify m raw = .short ∨ classify m raw = .observe ∨
      classify m raw = .other := by
  cases hconn : m.connected with
  | false => exact .inl (classify_of_unconnected raw hconn)
  | true =>
    by_cases hlen : raw.length < 8
    · exact .inr (.inl (classify_of_short hconn hlen))
    · rw [classify_of_full hconn (Nat.not_lt.1 hlen), recordClass_of_unaddressed hown]
      split <;> simp

/-- Settles O35: such a group is dropped or observed. -/
theorem unaddressedFrameNeverQueuesAReply : Obligations.UnaddressedFrameNeverQueuesAReply := by
  intro s t raw now hown hexec
  rw [exec_rxFrame] at hexec
  obtain ⟨-, -, rfl⟩ := receive_next.1 hexec
  have hclass := classify_of_unaddressed (m := s.mode) hown
  obtain h | h | h | h := hclass <;> rw [h] <;> exact ⟨rfl, rfl⟩

/-! ### What of an inbound frame does not matter (30_encoding.md, reserved bits and opaque constants) -/

/-- The record without its source and its opaque bits. -/
def withoutOpaque (F : ControlFrame) : ControlFrame :=
  { F with messageSource := 0, loginBit := 0, unknownBit := 0, writeBit := 0, updateMagic := 0 }

theorem withoutOpaque_congr {F F' : ControlFrame} (hdest : F'.messageDest = F.messageDest)
    (htype : F'.messageType = F.messageType)
    (hbody : ∀ f : BodyField, f ≠ .updateMagic → F'.body f = F.body f) :
    withoutOpaque F' = withoutOpaque F := by
  refine ControlFrame.ext_body rfl hdest htype rfl rfl rfl fun f => ?_
  by_cases hf : f = .updateMagic
  · subst hf
    rfl
  · have hkeep : ∀ G : ControlFrame, (withoutOpaque G).body f = G.body f := by
      intro G
      cases f with
      | updateMagic => exact absurd rfl hf
      | _ => rfl
    rw [hkeep, hkeep, hbody f hf]

/-- The block's state after the reaction of the class `c` to a frame of record `F`. -/
def reactedSession (s : State) (c : FrameClass) (F : ControlFrame) (now : Nat) : Session :=
  let S := s.S.onFrameReceived now
  match c with
  | .unconnected | .short | .other => s.S
  | .statusCp1 => S.login.answer s.params.layout
      (if s.S.seenSecondaryController then S.login.replyStatusToSecondary s.params F
       else S.login.replyStatusToUnit s.params F)
  | .statusCp0Pri => S.answer s.params.layout (S.replyLoginToUnit s.params F)
  | .statusCp0Sec => S.answer s.params.layout (S.replyStatusMagic2 s.params F)
  | .login => S.queue s.params.layout (S.replyLoginEcho s.params F)
  | .error | .reserved => S
  | .observe => s.S.observe F

theorem react_S (s : State) (c : FrameClass) (b : Frame) (now : Nat) :
    (s.react c (invFrame b).toList now).S =
      reactedSession s c (decodeFrame s.params.layout b) now := by
  cases c with
  | statusCp1 => rw [react_statusCp1]; rfl
  | statusCp0Pri => rw [react_statusCp0Pri]; rfl
  | statusCp0Sec => rw [react_statusCp0Sec]; rfl
  | login => rw [react_login]; rfl
  | observe => rw [react_observe]; rfl
  | _ => rfl

theorem reactedSession_congr (s : State) (c : FrameClass) {F F' : ControlFrame} (now : Nat)
    (h : withoutOpaque F' = withoutOpaque F) :
    reactedSession s c F' now = reactedSession s c F now := by
  have hcore : ∀ G, reactedSession s c G now = reactedSession s c (withoutOpaque G) now := by
    intro G
    cases c <;> rfl
  rw [hcore F', h, ← hcore F]

theorem recordClass_congr (m : Mode) {F F' : ControlFrame}
    (h : withoutOpaque F' = withoutOpaque F) : recordClass m F' = recordClass m F := by
  have hcore : ∀ G, recordClass m G = recordClass m (withoutOpaque G) := fun _ => rfl
  rw [hcore F', h, ← hcore F]

/-- Settles O36: class and next S of a frame are those of its record without the opaque bits. -/
theorem sourceAndOpaqueBitsDoNotMatter : Obligations.SourceAndOpaqueBitsDoNotMatter := by
  intro s t t' b b' now F F' hdest htype hbody hexec hexec'
  rw [exec_rxFrame] at hexec hexec'
  obtain ⟨-, -, rfl⟩ := receive_next.1 hexec
  obtain ⟨-, -, rfl⟩ := receive_next.1 hexec'
  have hcore : withoutOpaque F' = withoutOpaque F := withoutOpaque_congr hdest htype hbody
  have hclass : classify s.mode (invFrame b').toList = classify s.mode (invFrame b).toList := by
    cases hconn : s.S.connected with
    | false => rw [classify_of_unconnected _ hconn, classify_of_unconnected _ hconn]
    | true =>
      rw [classify_of_connected hconn, classify_of_connected hconn]
      exact recordClass_congr s.mode hcore
  rw [hclass, react_S, react_S]
  exact reactedSession_congr (s.at now) _ now hcore

end Machine
end Sys2Proof
end

section
/-! PROOFS. 41_pending_update.md and 42_transport_timer.md: staging and merging, and the operations on time. -/

namespace Sys2Proof.Machine

/-! ### Staging (41_pending_update.md R121, R125 to R132) -/

theorem exec_of_stagedBy {i : Instr} {f : StageField} {v : Byte} (h : stagedBy i = some (f, v))
    (s : State) : exec i s = .next (s.staged f v) := by
  unfold stagedBy at h
  split at h <;> cases h <;> rfl

theorem stage_body (S : Session) (L : Layout) (f : StageField) (v : Byte) (g : BodyField) :
    (S.stage L f v).updateState.body g =
      if f.toBody = g then truncTo (L.width f.toBody) v else S.updateState.body g := by
  rw [Session.stage_updateState, ControlFrame.body_setBody]

/-- Settles O9: each of the eight operations stages its field (R121). -/
theorem stagingWritesOneFieldAndItsFlag : Obligations.StagingWritesOneFieldAndItsFlag := by
  intro s i f v hi
  refine ⟨(s.S.stage s.params.layout f v).updateState, setDirty s.S.updateFields f,
    exec_of_stagedBy hi s, ?_, fun g hg => ?_, ?_, ?_, ?_, ?_, ?_, ?_, isDirty_setDirty _ f⟩
  · rw [stage_body, if_pos rfl, truncTo_toNat]
  · rw [stage_body, if_neg hg.symm]
  all_goals simp

/-- Settles O10, by induction on the list from its last staging. -/
theorem lastStagingWins : Obligations.LastStagingWins := by
  intro S L l f
  induction l using List.reverseRecOn with
  | nil => simp
  | append_singleton l p ih =>
    obtain ⟨hflag, hvalue⟩ := ih
    simp only [List.foldl_append, List.foldl_cons, List.foldl_nil, Session.stage_updateFields,
      isDirty_setDirty, stage_body, hflag, hvalue, List.any_append, List.reverse_append,
      List.reverse_singleton, List.singleton_append, List.find?_cons]
    by_cases hp : p.1 = f
    · simp [hp]
    · have hbody : p.1.toBody ≠ f.toBody := fun h => hp (StageField.toBody_injective h)
      have hflag' : (p.1 == f) = false := beq_eq_false_iff_ne.2 hp
      simp [hbody, hflag', Ne.symm hp]

/-! ### Pending and merging (41_pending_update.md R123, R124) -/

theorem exec_updatePending (s : State) :
    exec .updatePending s = .next (s.emit (.bit (anyDirty s.S.updateFields))) := rfl

theorem anyDirty_iff (D : BitVec 7) : anyDirty D = true ↔ ∃ f, isDirty D f = true := by
  rw [anyDirty, bne_iff_ne, Ne, flags_eq_zero_iff]
  simp

/-- Settles O11: the emitted bit is `anyDirty`. -/
theorem updatePendingAnswersAnyFlag : Obligations.UpdatePendingAnswersAnyFlag := fun s =>
  ⟨anyDirty s.S.updateFields, exec_updatePending s, anyDirty_iff s.S.updateFields⟩

theorem exec_applyAndClear (R : ControlFrame) (s : State) : exec (.applyAndClear R) s =
    .next ((s.withS s.S.clearDirty).emit (.record (s.S.applied R))) := rfl

/-- Settles O12: the emitted record is `Session.applied`, field by field. -/
theorem applyAndClearMergesDirtyFields : Obligations.ApplyAndClearMergesDirtyFields := fun s R =>
  ⟨s.S.applied R, exec_applyAndClear R s, applied_body_stageable s.S R, applied_body_other s.S R,
    applied_header s.S R⟩

/-! ### Operations on time (42_transport_timer.md R140 to R146) -/

/-- Settles O13 (R140). -/
theorem onFrameReceivedRecordsTheTime : Obligations.OnFrameReceivedRecordsTheTime := by
  intro s now hclock
  rw [exec_onFrameReceived, timed_of_le _ hclock]
  rfl

theorem exec_isBound_of_le {s : State} {now : Nat} (hclock : s.clock ≤ now) :
    exec (.isBound now) s = .next ((s.at now).isBound now) := by
  rw [exec_isBound, timed_of_le _ hclock]

/-- Settles O15: outside the corner the emitted bit is `Session.bound` (R142). -/
theorem isBoundOutsideTheCorner : Obligations.IsBoundOutsideTheCorner := by
  intro s now hclock hcorner
  refine ⟨s.S.bound s.params now, ?_, bound_iff s.S s.params now⟩
  rw [exec_isBound_of_le hclock, State.isBound]
  exact congrArg _ (if_neg fun h => hcorner ((boundUnspecified_iff s.S s.params now).1 h))

/-- Settles O16: in the corner the emitted bit is the free one (R142, D19). -/
theorem isBoundInTheCorner : Obligations.IsBoundInTheCorner := by
  intro s now hclock hcorner
  refine ⟨Config.freeBit s.draws, ?_⟩
  rw [exec_isBound_of_le hclock, State.isBound]
  exact congrArg _ (if_pos ((boundUnspecified_iff s.S s.params now).2 hcorner))

/-- Settles O17: the emitted bit is `Session.timedOut` (R143). -/
theorem isTimedOutComparesElapsed : Obligations.IsTimedOutComparesElapsed := by
  intro s now th hclock
  refine ⟨s.S.timedOut now th, ?_, timedOut_iff s.S now th⟩
  rw [exec_isTimedOut, timed_of_le _ hclock]
  rfl

theorem exec_timeoutPoll_of_le {s : State} {now : Nat} (th : Nat) (hclock : s.clock ≤ now) :
    exec (.timeoutPoll now th) s = .next ((s.at now).timeoutPoll now th) := by
  rw [exec_timeoutPoll, timed_of_le _ hclock]

/-- Settles O18: the session reset is taken exactly when timed out (R144). -/
theorem timeoutPollResetsExactlyThreeElements : Obligations.TimeoutPollResetsExactlyThreeElements := by
  intro s now th hclock
  rw [exec_timeoutPoll_of_le th hclock, timeoutPoll_eq]
  rfl

theorem exec_tick_of_le {s : State} {now : Nat} (th : Nat) (hclock : s.clock ≤ now) :
    exec (.tick now th) s = .next (((s.at now).txPoll now).timeoutPoll now th) := by
  rw [exec_tick, timed_of_le _ hclock]

theorem at_of_clock_eq {s : State} {now : Nat} (h : s.clock = now) : s.at now = s := by
  subst h
  rfl

/-- Settles O20: after TX_POLL the machine is at `now` already, so TIMEOUT_POLL does the second half of TICK (R146). -/
theorem tickSendsThenChecksTheTimeout : Obligations.TickSendsThenChecksTheTimeout := by
  intro s now th hclock
  have hnow : ((s.at now).txPoll now).clock = now := by rw [txPoll_clock, State.at_clock]
  have htimeout := exec_timeoutPoll_of_le th hnow.le
  rw [at_of_clock_eq hnow] at htimeout
  refine ⟨_, _, exec_txPoll_of_le hclock, htimeout, exec_tick_of_le th hclock, ?_⟩
  obtain ⟨-, -, -, -, hT⟩ := timeoutPoll_frame ((s.at now).txPoll now) now th
  obtain ⟨-, -, -, -, hS⟩ := txPoll_frame (s.at now) now
  rw [hT, hS]
  exact ⟨rfl, rfl, rfl, rfl, rfl, rfl, rfl⟩

end Sys2Proof.Machine
end

section
/-! PROOFS. 43_session_fsm.md: the reply shapes, CONNECT, RESET, and the label of the phase. -/

namespace Sys2Proof.Machine

/-! ### The reply shapes (43_session_fsm.md R177) -/

theorem exec_of_buildsStatusReply {i : Instr} {s : State} {R : ControlFrame}
    (hi : buildsStatusReply i = true) (hR : replyTable s.params s.S i = some R) :
    exec i s = .next (s.withS (s.S.answer s.params.layout R)) := by
  unfold buildsStatusReply at hi
  split at hi <;> cases hi <;> cases hR <;> rfl

/-- Settles O37: the shape answers with its column, merged. -/
theorem statusReplyIsMergedPersistedQueued : Obligations.StatusReplyIsMergedPersistedQueued :=
  fun s _ R hi hR => ⟨s.S.merged R, merged_isMerged s.S R, exec_of_buildsStatusReply hi hR⟩

/-- Settles O38: both shapes queue the last column. -/
theorem loginEchoIsQueuedOnly : Obligations.LoginEchoIsQueuedOnly := by
  intro s i R hi hR
  unfold buildsLoginEcho at hi
  split at hi <;> cases hi <;> cases hR <;> rfl

/-! ### CONNECT, RESET and the unassigned codes (43_session_fsm.md R193, R194; 30_encoding.md R90) -/

/-- Settles O41 (R193). -/
theorem connectStartsASession : Obligations.ConnectStartsASession := fun s v => exec_connect v s

/-- Settles O42 (R194). -/
theorem resetZeroesExactlyThreeElements : Obligations.ResetZeroesExactlyThreeElements := exec_reset

/-- Settles O43: after RESET the elapsed time is `now` itself, so the queued reply waits for the guard from 0. -/
theorem staleReplyLeavesAfterReset : Obligations.StaleReplyLeavesAfterReset := by
  intro s now hclock hpending
  refine ⟨_, _, exec_reset s, exec_txPoll_of_le hclock, ?_⟩
  rw [txPoll_eq]
  by_cases hguard : s.params.guardMs ≤ now
  · simp [hguard, hpending]
  · simp [hguard, hpending, Nat.not_le.1 hguard]

/-- Settles O47 (D21). -/
theorem unassignedCodesDoNothing : Obligations.UnassignedCodesDoNothing := by
  rintro s i (rfl | rfl | rfl) <;> rfl

/-! ### The label (43_session_fsm.md R190) -/

section
variable {S : Session}

theorem phase_of_not_connected (hc : S.connected = false) : S.phase = .disconnected := if_pos hc

theorem phase_of_connected (hc : S.connected = true) (hl : S.controllerLoggedIn = false) :
    S.phase = if S.lastFrameReceived = 0 then .awaitingFirstContact else .loggingIn := by
  simp [Session.phase, hc, hl]

theorem phase_of_loggedIn (hc : S.connected = true) (hl : S.controllerLoggedIn = true) :
    S.phase = if S.controllerIsPrimary = false then .boundSecondary
      else if S.seenSecondaryController = true then .boundPrimaryWithSecondary
      else .boundPrimaryNoSecondary := by
  simp [Session.phase, hc, hl]

theorem phase_eq_disconnected_iff : S.phase = .disconnected ↔ S.connected = false := by
  refine ⟨fun h => ?_, phase_of_not_connected⟩
  by_contra hc
  rw [Bool.not_eq_false] at hc
  revert h
  cases hl : S.controllerLoggedIn with
  | false => rw [phase_of_connected hc hl]; split <;> exact nofun
  | true => rw [phase_of_loggedIn hc hl]; split <;> [skip; split] <;> exact nofun

/-- Connected, without login mark and time, the label is AWAITING_FIRST_CONTACT. -/
theorem phase_of_fresh (hc : S.connected = true) (hl : S.controllerLoggedIn = false)
    (ht : S.lastFrameReceived = 0) : S.phase = .awaitingFirstContact := by
  rw [phase_of_connected hc hl, if_pos ht]

end

/-- Settles O45: by cases on `connected`, then on the login mark. -/
theorem phaseAnswersTheLabel : Obligations.PhaseAnswersTheLabel := by
  intro s
  refine ⟨s.S.phase, rfl, ?_⟩
  cases hc : s.S.connected with
  | false => simp [phase_of_not_connected hc]
  | true =>
    cases hl : s.S.controllerLoggedIn with
    | false =>
      rw [phase_of_connected hc hl]
      by_cases ht : s.S.lastFrameReceived = 0 <;> simp [ht]
    | true =>
      rw [phase_of_loggedIn hc hl]
      cases hp : s.S.controllerIsPrimary <;> cases hs : s.S.seenSecondaryController <;> simp

/-! ### The transitions of the label (43_session_fsm.md R191) -/

theorem timeoutPoll_phase {s : State} (hc : s.S.connected = true) (now th : Nat) :
    (s.timeoutPoll now th).S.phase =
      if th ≤ now - s.S.lastFrameReceived then .awaitingFirstContact else s.S.phase := by
  rw [timeoutPoll_eq]
  split
  · exact phase_of_fresh hc rfl rfl
  · rfl

theorem txPoll_phase (s : State) (now : Nat) : (s.txPoll now).S.phase = s.S.phase := by
  obtain ⟨-, -, -, -, hS⟩ := txPoll_frame s now
  rw [hS]
  rfl

theorem txPoll_lastFrameReceived (s : State) (now : Nat) :
    (s.txPoll now).S.lastFrameReceived = s.S.lastFrameReceived := by
  obtain ⟨-, -, -, -, hS⟩ := txPoll_frame s now
  rw [hS]

/-- A recorded time moves the label from AWAITING_FIRST_CONTACT alone, since times do not go back. -/
theorem onFrameReceived_phase {S : Session} {now : Nat} (hc : S.connected = true)
    (htime : S.lastFrameReceived ≤ now) : (S.onFrameReceived now).phase =
      if S.phase = .awaitingFirstContact then
        if 0 < now then .loggingIn else .awaitingFirstContact
      else S.phase := by
  cases hl : S.controllerLoggedIn with
  | true =>
    have hsame : (S.onFrameReceived now).phase = S.phase := by
      rw [phase_of_loggedIn hc hl]
      exact phase_of_loggedIn hc hl
    rw [hsame, if_neg]
    rw [phase_of_loggedIn hc hl]
    split <;> [skip; split] <;> exact nofun
  | false =>
    have hnew : (S.onFrameReceived now).phase = if now = 0 then .awaitingFirstContact else .loggingIn :=
      phase_of_connected hc hl
    rw [hnew, phase_of_connected hc hl]
    by_cases hlast : S.lastFrameReceived = 0
    · by_cases hnow : now = 0 <;> simp [hlast, hnow, Nat.pos_iff_ne_zero]
    · have hnow : now ≠ 0 := by omega
      simp [hlast, hnow]

/-- An observed frame moves the label from BOUND_PRIMARY_NO_SECONDARY alone. -/
theorem observe_phase (S : Session) (F : ControlFrame) : (S.observe F).phase =
    if S.phase = .boundPrimaryNoSecondary then .boundPrimaryWithSecondary else S.phase := by
  cases hc : S.connected with
  | false =>
    rw [phase_of_not_connected hc]
    exact phase_of_not_connected hc
  | true =>
    cases hl : S.controllerLoggedIn with
    | false =>
      have hsame : (S.observe F).phase = S.phase :=
        (phase_of_connected (S := S.observe F) hc hl).trans (phase_of_connected hc hl).symm
      rw [hsame, if_neg]
      rw [phase_of_connected hc hl]
      split <;> exact nofun
    | true =>
      have hnew : (S.observe F).phase =
          if S.controllerIsPrimary = false then .boundSecondary else .boundPrimaryWithSecondary :=
        phase_of_loggedIn hc hl
      rw [hnew, phase_of_loggedIn hc hl]
      cases S.controllerIsPrimary <;> cases S.seenSecondaryController <;> rfl

/-- The label after the reaction to a group, by its class. -/
theorem react_phase {s : State} (hc : s.S.connected = true) (c : FrameClass) (raw : List Byte)
    {now : Nat} (htime : s.S.lastFrameReceived ≤ now) : (s.react c raw now).S.phase =
      match c with
      | .statusCp1 =>
        if s.S.controllerIsPrimary = false then .boundSecondary
        else if s.S.seenSecondaryController then .boundPrimaryWithSecondary
        else .boundPrimaryNoSecondary
      | .observe =>
        if s.S.phase = .boundPrimaryNoSecondary then .boundPrimaryWithSecondary else s.S.phase
      | .statusCp0Pri | .statusCp0Sec | .login | .error | .reserved =>
        if s.S.phase = .awaitingFirstContact then
          if 0 < now then .loggingIn else .awaitingFirstContact
        else s.S.phase
      | .unconnected | .short | .other => s.S.phase := by
  cases c with
  | statusCp1 => exact phase_of_loggedIn hc rfl
  | observe => exact observe_phase s.S _
  | statusCp0Pri | statusCp0Sec | login | error | reserved =>
    exact onFrameReceived_phase hc htime
  | unconnected | short | other => rfl

/-- An operation that can be presented and is none of those of the table's rows leaves the label. -/
theorem exec_phase_of_other {i : Instr} {s t : State} (hp : presentable i = true)
    (hexec : exec i s = .next t) (hconnect : ∀ v, i ≠ .connect v) (hreset : i ≠ .reset)
    (hgroup : groupOf i = none)
    (htime : ∀ now th, i ≠ .timeoutPoll now th ∧ i ≠ .tick now th) : t.S.phase = s.S.phase := by
  obtain ⟨raw, now, hg, -, -, -⟩ | ⟨now, k, -, -, rfl, heffect⟩ | heffect := exec_next_cases hexec
  · exact absurd (hgroup.symm.trans hg) nofun
  · cases heffect with
    | polls hi hk => rw [hk, txPoll_phase, State.at_S]
    | pollsTimeout th hi hk => exact absurd hi (htime now th).1
    | ticks th hi hk => exact absurd hi (htime now th).2
    | recordsTime hi hk =>
      subst hi
      exact nomatch hp
    | answers hk => rw [(hk (s.at now)).S_eq, State.at_S]
  · cases heffect with
    | connects v hi => exact absurd hi (hconnect v)
    | resets hi => exact absurd hi hreset
    | answers ht => rw [ht.S_eq]
    | _ => rfl

/-- Settles O46: clause by clause; a receiving operation moves the label by the class of its group. -/
theorem phaseTransitions : Obligations.PhaseTransitions := by
  intro s t i hInv hp hexec
  refine ⟨fun v hi => ?_, fun hconnect hphase => ?_, fun hphase => ⟨fun hi => ?_, ?_, ?_, ?_⟩⟩
  · subst hi
    obtain rfl := exec_connect_next hexec
    exact phase_of_fresh rfl rfl rfl
  · obtain ⟨-, -, -, hc⟩ := exec_sameIdentity hexec hconnect
    rw [phase_eq_disconnected_iff] at hphase ⊢
    rw [hc, hphase]
  all_goals
    have hc : s.S.connected = true := by
      rw [Ne, phase_eq_disconnected_iff, Bool.not_eq_false] at hphase
      exact hphase
  · subst hi
    obtain rfl : s.withS s.S.resetSession = t := by
      simpa using (exec_reset s).symm.trans hexec
    exact phase_of_fresh hc rfl rfl
  · rintro now th (rfl | rfl)
    · rw [exec_timeoutPoll] at hexec
      obtain ⟨-, rfl⟩ := timed_next.1 hexec
      exact timeoutPoll_phase (s := s.at now) hc now th
    · rw [exec_tick] at hexec
      obtain ⟨-, rfl⟩ := timed_next.1 hexec
      have hc' : ((s.at now).txPoll now).S.connected = true := by
        obtain ⟨-, -, -, hsame⟩ := txPoll_sameIdentity (s.at now) now
        rw [hsame]
        exact hc
      rw [timeoutPoll_phase hc', txPoll_lastFrameReceived, txPoll_phase]
      rfl
  · intro raw now hgroup
    rw [exec_of_groupOf hgroup] at hexec
    obtain ⟨-, hclock, rfl⟩ := receive_next.1 hexec
    obtain ⟨-, -, -, -, -, -, -, hlast⟩ := hInv
    have hmove := react_phase (s := s.at now) hc (classify s.mode raw) raw (hlast.trans hclock)
    rw [hmove, State.at_S]
    cases classify s.mode raw <;> cases s.S.phase <;> rfl
  · exact exec_phase_of_other hp hexec

end Sys2Proof.Machine
end

section
/-! PROOFS. 30_encoding.md: events, operations and the reply shapes, from the encoder to the decoder and back. -/

namespace Sys2Proof

/-! ### What a reader of operands can answer -/

section
variable {good : Instr → Prop} {bytes : List Byte} {times : List Nat} {j : Instr}

theorem readNone_ok {i : Instr} (hi : good i) (h : readNone i bytes times = .ok j) : good j := by
  unfold readNone at h
  split at h <;> cases h
  exact hi

theorem readBit_ok {k : Bool → Instr} (hk : ∀ v, good (k v)) (h : readBit k bytes times = .ok j) :
    good j := by
  unfold readBit at h
  split at h
  · split at h
    · cases h
      exact hk true
    · split at h <;> cases h
      exact hk false
  · cases h
  · cases h

theorem readByte_ok {k : Byte → Instr} (hk : ∀ v, good (k v))
    (h : readByte k bytes times = .ok j) : good j := by
  unfold readByte at h
  split at h <;> cases h
  exact hk _

theorem readTime_ok {k : Nat → Instr} (hk : ∀ now, good (k now))
    (h : readTime k bytes times = .ok j) : good j := by
  unfold readTime at h
  split at h <;> cases h
  exact hk _

theorem readTwoTimes_ok {k : Nat → Nat → Instr} (hk : ∀ now th, good (k now th))
    (h : readTwoTimes k bytes times = .ok j) : good j := by
  unfold readTwoTimes at h
  split at h <;> cases h
  exact hk _ _

theorem readGroup_ok {k : List Byte → Nat → Instr}
    (hk : ∀ raw now, raw.length ≤ 8 → good (k raw now))
    (h : readGroup k bytes times = .ok j) : good j := by
  unfold readGroup at h
  split at h
  · split at h
    · cases h
    · split at h
      · cases h
      · next hlen =>
        cases h
        exact hk _ _ (Nat.not_lt.1 hlen)
  · cases h
  · cases h

theorem readFrame_ok {k : Frame → Instr} (hk : ∀ b, good (k b))
    (h : readFrame k bytes times = .ok j) : good j := by
  unfold readFrame at h
  split at h
  · split at h <;> cases h
    exact hk _
  · cases h

theorem readRecord_ok {k : ControlFrame → Instr} (hk : ∀ F, good (k F))
    (h : readRecord k bytes times = .ok j) : good j := by
  unfold readRecord at h
  split at h
  · split at h <;> cases h
    exact hk _
  · cases h

end

/-! ### Whatever the decoder reads -/

/-- Well formed in the mode, and with an event. -/
def Readable (m : Mode) (i : Instr) : Prop := i.wf m = true ∧ presentable i = true

theorem decodeCommand_readable (m : Mode) {cmd : BitVec 5} {bytes : List Byte} {times : List Nat}
    {i : Instr} (h : decodeCommand cmd bytes times = .ok i) : Readable m i := by
  unfold decodeCommand at h
  split at h
  case h_1 | h_3 | h_8 | h_16 | h_17 | h_18 | h_19 | h_20 | h_21 | h_22 | h_23 | h_24 | h_26 | h_29 =>
    exact readNone_ok ⟨rfl, rfl⟩ h
  case h_2 | h_9 => exact readBit_ok (fun _ => ⟨rfl, rfl⟩) h
  case h_10 | h_11 | h_12 | h_13 | h_14 | h_15 => exact readByte_ok (fun _ => ⟨rfl, rfl⟩) h
  case h_5 | h_25 | h_28 => exact readTime_ok (fun _ => ⟨rfl, rfl⟩) h
  case h_6 | h_7 | h_27 => exact readTwoTimes_ok (fun _ _ => ⟨rfl, rfl⟩) h
  case h_4 =>
    exact readGroup_ok (k := .rxFrame) (fun _ _ hlen => ⟨decide_eq_true hlen, rfl⟩) h
  case h_30 | h_32 => exact readFrame_ok (fun _ => ⟨rfl, rfl⟩) h
  case h_31 => exact readRecord_ok (fun _ => ⟨rfl, rfl⟩) h

/-- A group of a class with a frame is the wire form of a logical frame. -/
theorem exists_frame_of_classify {m : Mode} {raw : List Byte} {c : FrameClass}
    (hlen : raw.length ≤ 8) (hclass : classify m raw = c) (hc : c ≠ .unconnected ∧ c ≠ .short) :
    ∃ b : Frame, raw = (invFrame b).toList := by
  subst hclass
  obtain ⟨hu, hs⟩ := hc
  cases hc : m.connected with
  | false => exact absurd (Machine.classify_of_unconnected raw hc) hu
  | true =>
    have hfull : raw.length = 8 := by
      by_contra hne
      exact hs (Machine.classify_of_short hc (lt_of_le_of_ne hlen hne))
    exact ⟨invFrame (Frame.ofList raw), by rw [invFrame_invFrame, Frame.toList_ofList hfull]⟩

/-- A full group answered by the row without `controllerPresent` is in that row's role. -/
theorem isPrimary_of_recordClass {m : Mode} {F : ControlFrame} :
    (recordClass m F = .statusCp0Pri → m.isPrimary = true) ∧
    (recordClass m F = .statusCp0Sec → m.isPrimary = false) := by
  constructor
  · cases hrole : m.isPrimary with
    | true => exact fun _ => rfl
    | false =>
      simp only [recordClass, hrole, Bool.false_eq_true, if_false]
      split_ifs <;> exact nofun
  · cases hrole : m.isPrimary with
    | false => exact fun _ => rfl
    | true =>
      simp only [recordClass, hrole, if_true]
      split_ifs <;> exact nofun

theorem isPrimary_of_classify {m : Mode} {raw : List Byte} :
    (classify m raw = .statusCp0Pri → m.isPrimary = true) ∧
    (classify m raw = .statusCp0Sec → m.isPrimary = false) := by
  cases hc : m.connected with
  | false => rw [Machine.classify_of_unconnected raw hc]; exact ⟨nofun, nofun⟩
  | true =>
    by_cases hlen : raw.length < 8
    · rw [Machine.classify_of_short hc hlen]
      exact ⟨nofun, nofun⟩
    · rw [classify_of_full hc (Nat.not_lt.1 hlen)]
      exact isPrimary_of_recordClass

/-- A row of the frame map answers a readable operation, whose group is the one read. -/
theorem decodeGroup_of_le (m : Mode) {raw : List Byte} (now : Nat) (hlen : raw.length ≤ 8) :
    ∃ i, decodeGroup m raw now = .ok i ∧ groupOf i = some (raw, now) ∧ Readable m i := by
  unfold decodeGroup
  rw [if_neg (Nat.not_lt.2 hlen)]
  cases hclass : classify m raw with
  | unconnected => exact ⟨_, rfl, rfl, by simp [Instr.wf, hlen, hclass], rfl⟩
  | short => exact ⟨_, rfl, rfl, by simp [Instr.wf, hclass], rfl⟩
  | statusCp1 | login | error | reserved =>
    obtain ⟨b, rfl⟩ := exists_frame_of_classify hlen hclass (by decide)
    rw [Frame.ofList_toList, invFrame_invFrame]
    cases hrole : m.isPrimary <;>
      exact ⟨_, rfl, rfl, Machine.rowHolds_iff.2 ⟨hrole, hclass⟩, rfl⟩
  | statusCp0Pri =>
    obtain ⟨b, rfl⟩ := exists_frame_of_classify hlen hclass (by decide)
    rw [Frame.ofList_toList, invFrame_invFrame]
    exact ⟨_, rfl, rfl, Machine.rowHolds_iff.2 ⟨isPrimary_of_classify.1 hclass, hclass⟩, rfl⟩
  | statusCp0Sec =>
    obtain ⟨b, rfl⟩ := exists_frame_of_classify hlen hclass (by decide)
    rw [Frame.ofList_toList, invFrame_invFrame]
    exact ⟨_, rfl, rfl, Machine.rowHolds_iff.2 ⟨isPrimary_of_classify.2 hclass, hclass⟩, rfl⟩
  | observe | other =>
    obtain ⟨b, rfl⟩ := exists_frame_of_classify hlen hclass (by decide)
    rw [Frame.ofList_toList, invFrame_invFrame]
    exact ⟨_, rfl, rfl, Machine.classHolds_iff.2 hclass, rfl⟩

theorem decodeGroup_of_lt (m : Mode) {raw : List Byte} (now : Nat) (hlen : 8 < raw.length) :
    decodeGroup m raw now = .rejected .groupTooLong := if_pos hlen

/-- Settles O54: a command by its reader, a group by its row. -/
theorem decodedOperationIsWellFormed : Obligations.DecodedOperationIsWellFormed := by
  intro m p i h
  cases p with
  | command cmd bytes times => exact decodeCommand_readable m h
  | group raw now =>
    have hgroup : decodeGroup m raw now = .ok i := h
    by_cases hlen : raw.length ≤ 8
    · obtain ⟨j, hj, -, hreadable⟩ := decodeGroup_of_le m now hlen
      obtain rfl : j = i := by simpa using hj.symm.trans hgroup
      exact hreadable
    · rw [decodeGroup_of_lt m now (Nat.not_le.1 hlen)] at hgroup
      cases hgroup
  | codecBytes b =>
    cases h
    exact ⟨rfl, rfl⟩
  | codecRecord F =>
    cases h
    exact ⟨rfl, rfl⟩

namespace Machine

/-! ### The step on the oldest event (20_memory.md R62) -/

section
variable {s : State} {p : Packet} {rest : List Packet}

theorem step_of_nil (h : s.inbox = []) : step s = .next s := by
  simp [step, fetch, h]

theorem step_of_decoded (h : s.inbox = p :: rest) (hwf : s.params.wf = true) {i : Instr}
    (hi : decode s.mode p = .ok i) : step s = exec i { s with inbox := rest } := by
  simp [step, fetch, h, hwf, hi]

theorem step_of_rejected (h : s.inbox = p :: rest) (hwf : s.params.wf = true) {e : DecodeError}
    (he : decode s.mode p = .rejected e) : step s = .refused (.malformed e) := by
  simp [step, fetch, h, hwf, he]

theorem step_of_not_wf (h : s.inbox = p :: rest) (hwf : s.params.wf = false) :
    step s = .refused .illFormedParams := by
  simp [step, fetch, h, hwf]

end

/-- Settles O52: by whether an event waits, the parameters are well formed and the decoder reads it. -/
theorem stepDoesTheDecodedOperation : Obligations.StepDoesTheDecodedOperation := fun _ _ _ =>
  ⟨step_of_nil, fun h hwf => ⟨fun _ => step_of_decoded h hwf, fun _ => step_of_rejected h hwf⟩,
    step_of_not_wf⟩

theorem decodeCommand_rxFrame {raw : List Byte} (now : Nat) (hlen : raw.length ≤ 8) :
    decodeCommand 0x03 (groupBytes raw) [now] = .ok (.rxFrame raw now) := by
  have hcount : (BitVec.ofNat 8 raw.length).toNat = raw.length := by
    rw [BitVec.toNat_ofNat, Nat.mod_eq_of_lt (by omega)]
  change readGroup .rxFrame (groupBytes raw) [now] = _
  simp only [readGroup, groupBytes, hcount, ne_eq, not_true, if_false, Nat.not_lt.2 hlen]

/-- Settles O24: both events are read as operations that receive the group. -/
theorem groupAndCommandMakeTheSameStep : Obligations.GroupAndCommandMakeTheSameStep := by
  intro s raw now rest hwf hlen
  obtain ⟨i, hi, hgroup, -⟩ := decodeGroup_of_le s.mode now hlen
  have hread := step_of_decoded (s := { s with inbox := .group raw now :: rest }) rfl hwf hi
  have hcommand := step_of_decoded
    (s := { s with inbox := .command 0x03 (groupBytes raw) [now] :: rest }) rfl hwf
    (decodeCommand_rxFrame now hlen)
  rw [hread, hcommand, exec_of_groupOf hgroup, exec_rxFrame]

end Machine

/-- Settles O55, by reading the six words. -/
theorem tableWordsDecode : Obligations.TableWordsDecode :=
  ⟨by decide, by decide, by decide, by decide, by decide, by decide⟩

/-! ### The reply shapes are told apart by their fixed fields (43_session_fsm.md R177) -/

section
variable {P : Params} {src dest src' dest' : BitVec 7} {mt mt' : BitVec 2} {login login' : BitVec 1}
  {cp magic cp' magic' : Byte} {b : Frame}

theorem hasShape_iff : hasShape P src dest mt login cp magic b = true ↔
    (decodeFrame P.layout b).messageSource = src.setWidth 8 ∧
    (decodeFrame P.layout b).messageDest = dest ∧ (decodeFrame P.layout b).messageType = mt ∧
    (decodeFrame P.layout b).loginBit = login ∧ (decodeFrame P.layout b).unknownBit = 1 ∧
    (decodeFrame P.layout b).controllerPresent = cp ∧
    (decodeFrame P.layout b).updateMagic = magic ∧
    encodeFrame P.layout (decodeFrame P.layout b) = b := by
  simp only [hasShape, Bool.and_eq_true, beq_iff_eq, and_assoc]

theorem hasShapeNoWrite_iff : hasShapeNoWrite P src dest mt login cp magic b = true ↔
    hasShape P src dest mt login cp magic b = true ∧ (decodeFrame P.layout b).writeBit = 0 := by
  simp only [hasShapeNoWrite, Bool.and_eq_true, beq_iff_eq]

theorem hasShapeNoError_iff : hasShapeNoError P src dest mt login cp magic b = true ↔
    hasShape P src dest mt login cp magic b = true ∧ (decodeFrame P.layout b).acError = 0 := by
  simp only [hasShapeNoError, Bool.and_eq_true, beq_iff_eq]

/-- A frame of one shape has no shape with another source, destination, type or `updateMagic`. -/
theorem hasShape_exclusive (h : hasShape P src dest mt login cp magic b = true)
    (hne : src ≠ src' ∨ dest ≠ dest' ∨ mt ≠ mt' ∨ magic ≠ magic') :
    ¬ hasShape P src' dest' mt' login' cp' magic' b = true := by
  intro h'
  obtain ⟨hsrc, hdest, hmt, -, -, -, hmagic, -⟩ := hasShape_iff.1 h
  obtain ⟨hsrc', hdest', hmt', -, -, -, hmagic', -⟩ := hasShape_iff.1 h'
  obtain hne | hne | hne | hne := hne
  · have heq : src.setWidth 8 = src'.setWidth 8 := hsrc.symm.trans hsrc'
    exact hne (by bv_omega)
  · exact hne (hdest.symm.trans hdest')
  · exact hne (hmt.symm.trans hmt')
  · exact hne (hmagic.symm.trans hmagic')

theorem not_hasShapeNoError (h : ¬ hasShape P src dest mt login cp magic b = true) :
    ¬ hasShapeNoError P src dest mt login cp magic b = true := fun h' =>
  h (hasShapeNoError_iff.1 h').1

theorem not_hasShapeNoWrite (h : ¬ hasShape P src dest mt login cp magic b = true) :
    ¬ hasShapeNoWrite P src dest mt login cp magic b = true := fun h' =>
  h (hasShapeNoWrite_iff.1 h').1

end

/-- In a block with well-formed parameters the reply decoder reads the shape that a frame has. -/
theorem decodeReply_of_wf {m : Mode} (hP : m.params.wf = true) {i : Instr} (hi : i.wf m = true)
    {b : Frame} (hb : encodeReply i = some b) : decodeReply m.params b = some i := by
  obtain ⟨⟨hUP, hUS, hPS⟩, -, ⟨hSL, -⟩, -⟩ := m.params.wf_iff.1 hP
  unfold encodeReply at hb
  split at hb <;> cases hb
  case h_1 => exact if_pos hi
  case h_2 =>
    have h : hasShape _ _ _ _ _ _ _ b = true := hi
    rw [decodeReply, if_neg (hasShape_exclusive h (.inl hPS.symm)), if_pos h]
  case h_3 =>
    have h : hasShape _ _ _ _ _ _ _ b = true := hi
    rw [decodeReply, if_neg (hasShape_exclusive h (.inr (.inl hUS.symm))),
      if_neg (hasShape_exclusive h (.inl hPS)), if_pos h]
  case h_4 =>
    have h' : hasShapeNoError _ _ _ _ _ _ _ b = true := hi
    obtain ⟨h, -⟩ := hasShapeNoError_iff.1 h'
    have hmt {src dest login cp magic} :=
      hasShape_exclusive (src' := src) (dest' := dest) (login' := login) (cp' := cp)
        (magic' := magic) h (.inr (.inr (.inl hSL.symm)))
    rw [decodeReply, if_neg hmt, if_neg hmt, if_neg hmt, if_pos h']
  case h_5 =>
    have h : hasShape _ _ _ _ _ _ _ b = true := hi
    rw [decodeReply, if_neg (hasShape_exclusive h (.inl hPS.symm)),
      if_neg (hasShape_exclusive h (.inr (.inr (.inr (by decide))))),
      if_neg (hasShape_exclusive h (.inl hPS.symm)),
      if_neg (not_hasShapeNoError (hasShape_exclusive h (.inl hPS.symm))), if_pos h]
  case h_6 =>
    have h' : hasShapeNoWrite _ _ _ _ _ _ _ b = true := hi
    obtain ⟨h, -⟩ := hasShapeNoWrite_iff.1 h'
    have hmt {src dest login cp magic} :=
      hasShape_exclusive (src' := src) (dest' := dest) (login' := login) (cp' := cp)
        (magic' := magic) h (.inr (.inr (.inl hSL.symm)))
    rw [decodeReply, if_neg hmt, if_neg hmt, if_neg hmt,
      if_neg (not_hasShapeNoError (hasShape_exclusive h (.inr (.inl hUS.symm)))), if_neg hmt,
      if_pos h']
  case h_7 =>
    have h' : hasShapeNoWrite _ _ _ _ _ _ _ b = true := hi
    obtain ⟨h, -⟩ := hasShapeNoWrite_iff.1 h'
    have hmt {src dest login cp magic} :=
      hasShape_exclusive (src' := src) (dest' := dest) (login' := login) (cp' := cp)
        (magic' := magic) h (.inr (.inr (.inl hSL.symm)))
    rw [decodeReply, if_neg hmt, if_neg hmt, if_neg hmt,
      if_neg (not_hasShapeNoError (hasShape_exclusive h (.inr (.inl hUS.symm)))), if_neg hmt,
      if_neg (not_hasShapeNoWrite (hasShape_exclusive h (.inl hPS.symm))), if_pos h']

/-! ### Every event is read back (30_encoding.md R86, R90) -/

theorem decode_of_encode {m : Mode} {i : Instr} (hi : i.wf m = true) {p : Packet}
    (hp : encode i = some p) : decode m p = .ok i := by
  cases i with
  | rxStatusCp1Primary | rxStatusCp1Secondary | rxStatusCp0Pri | rxStatusCp0Sec | rxErrorPrimary
  | rxErrorSecondary | rxLoginPrimary | rxLoginSecondary | rxReservedPrimary
  | rxReservedSecondary =>
    cases hp
    obtain ⟨hrole, hclass⟩ := Machine.rowHolds_iff.1 hi
    simp [decode, decodeGroup, hclass, hrole]
  | rxObserve | rxOther =>
    cases hp
    have hclass := Machine.classHolds_iff.1 hi
    simp [decode, decodeGroup, hclass]
  | rxShort raw now =>
    cases hp
    have hclass : classify m raw = .short := beq_iff_eq.1 hi
    have hlen : ¬ 8 < raw.length := by
      have := Machine.length_lt_of_classify_short hclass
      omega
    simp [decode, decodeGroup, hclass, hlen]
  | rxUnconnected raw now =>
    cases hp
    obtain ⟨hlen, hclass⟩ : raw.length ≤ 8 ∧ classify m raw = .unconnected := by
      simpa [Instr.wf] using hi
    simp [decode, decodeGroup, hclass, Nat.not_lt.2 hlen]
  | rxFrame raw now =>
    cases hp
    exact Machine.decodeCommand_rxFrame now (of_decide_eq_true hi)
  | connect v | setOnOff v => cases hp; cases v <;> rfl
  | cmdEncode F =>
    cases hp
    change readRecord .cmdEncode F.toBytes [] = _
    simp [readRecord]
  | txStatusToUnitPrimary | txStatusToUnitSecondary | txStatusToSecondaryPrimary
  | txLoginToUnitPrimary | txStatusMagic2ToUnitSecondary | txLoginEchoToSecondaryPrimary
  | txLoginEchoToSecondarySecondary | onFrameReceived | applyAndClear | stage | wireDecode
  | wireEncode => cases hp
  | _ => cases hp; rfl

/-- Settles O53: an event is read back by its code or its class, a reply by its shape. -/
theorem decodeReadsBackEncode : Obligations.DecodeReadsBackEncode := fun _ _ hi =>
  ⟨fun _ hp => decode_of_encode hi hp, fun _ hP hb => decodeReply_of_wf hP hi hb⟩

end Sys2Proof
end

section
/-! PROOFS. 43_session_fsm.md R167 to R177: what every reply record satisfies, and the frame that is queued for it. -/

namespace Sys2Proof.Machine

/-! ### Records that fit their widths (10_state.md R43 (e)) -/

section
variable {L : Layout} {F : ControlFrame}

theorem fits_body (hF : F.fits L = true) (f : BodyField) : (F.body f).toNat < 2 ^ L.width f :=
  (F.fits_iff L).1 hF f

theorem zero_lt_width (L : Layout) (f : BodyField) : (0 : Byte).toNat < 2 ^ L.width f :=
  Nat.two_pow_pos _

theorem one_lt_width_controllerPresent (h : L.wf = true) :
    (1 : Byte).toNat < 2 ^ L.width .controllerPresent := by
  rw [Layout.width_controllerPresent h]
  decide

theorem two_lt_width_updateMagic (h : L.wf = true) : (2 : Byte).toNat < 2 ^ L.width .updateMagic :=
  calc (2 : Byte).toNat < 2 ^ 2 := by decide
    _ ≤ 2 ^ L.width .updateMagic := Nat.pow_le_pow_right (by decide) (Layout.two_le_width_updateMagic h)

theorem setBody_fits (hF : F.fits L = true) {f : BodyField} {v : Byte}
    (hv : v.toNat < 2 ^ L.width f) : (F.setBody f v).fits L = true := by
  refine (ControlFrame.fits_iff L _).2 fun g => ?_
  rw [ControlFrame.body_setBody]
  split
  next h => exact h ▸ hv
  next => exact fits_body hF g

theorem truncTo_lt (w : Nat) (v : Byte) : (truncTo w v).toNat < 2 ^ w := by
  rw [truncTo_toNat]
  exact Nat.mod_lt _ (Nat.two_pow_pos w)

end

section
variable {P : Params} (S : Session) {F : ControlFrame} (hF : F.fits P.layout = true)
include hF

theorem columnToUnit_fits (h : P.layout.wf = true) : (columnToUnit P S F).fits P.layout = true := by
  refine (ControlFrame.fits_iff _ _).2 fun f => ?_
  have hf := fits_body hF f
  cases f with
  | controllerPresent => exact one_lt_width_controllerPresent h
  | updateMagic => exact zero_lt_width _ _
  | _ => exact hf

theorem columnToSecondary_fits : (columnToSecondary P S F).fits P.layout = true := by
  refine (ControlFrame.fits_iff _ _).2 fun f => ?_
  have hf := fits_body hF f
  cases f with
  | controllerPresent | updateMagic => exact zero_lt_width _ _
  | _ => exact hf

theorem columnLogin_fits : (columnLogin P S F).fits P.layout = true := by
  refine (ControlFrame.fits_iff _ _).2 fun f => ?_
  have hf := fits_body hF f
  cases f with
  | economyMode | controllerTemp => exact hf
  | _ => exact zero_lt_width _ _

theorem columnMagic2_fits (h : P.layout.wf = true) : (columnMagic2 P S F).fits P.layout = true := by
  refine (ControlFrame.fits_iff _ _).2 fun f => ?_
  have hf := fits_body hF f
  cases f with
  | controllerPresent => exact one_lt_width_controllerPresent h
  | updateMagic => exact two_lt_width_updateMagic h
  | _ => exact hf

theorem columnLoginEcho_fits (h : P.layout.wf = true)
    (hcur : S.currentState.fits P.layout = true) :
    (columnLoginEcho P S F).fits P.layout = true := by
  refine (ControlFrame.fits_iff _ _).2 fun f => ?_
  have hf := fits_body hF f
  have hc := fits_body hcur f
  cases f with
  | controllerPresent => exact one_lt_width_controllerPresent h
  | updateMagic => exact zero_lt_width _ _
  | economyMode | controllerTemp => exact hf
  | _ => exact hc

end

/-! ### Reply records (20_memory.md R51, R52; 43_session_fsm.md R167) -/

/-- A record the block can send: it fits, its `loginBit` is bit 5 of its destination, it has the own address as its
source, `unknownBit` 1 and one of the two destinations. -/
structure IsReply (P : Params) (S : Session) (R : ControlFrame) : Prop where
  fits : R.fits P.layout = true
  canonical : R.canonical = true
  source : R.messageSource = S.controllerAddress.setWidth 8
  unknown : R.unknownBit = 1
  dest : R.messageDest = P.addrUnit ∨ R.messageDest = P.addrSecondary

theorem canonical_of_bit5 {F : ControlFrame}
    (h : F.loginBit = if F.messageDest.getLsbD 5 then 1 else 0) : F.canonical = true := by
  have hbit : ∀ d : BitVec 7, (if d.getLsbD 5 then 1 else 0 : BitVec 1) = d.extractLsb' 5 1 := by
    decide
  rw [ControlFrame.canonical, beq_iff_eq, h, hbit]

section
variable {P : Params} (h : P.wf = true) {S : Session} {R : ControlFrame}
include h

/-- A record to the unit has `loginBit` 0 (00_scope.md R6, D4). -/
theorem isReply_toUnit (hfits : R.fits P.layout = true)
    (hsource : R.messageSource = S.controllerAddress.setWidth 8) (hunknown : R.unknownBit = 1)
    (hdest : R.messageDest = P.addrUnit) (hlogin : R.loginBit = 0) : IsReply P S R := by
  obtain ⟨-, ⟨hbit, -⟩, -, -⟩ := P.wf_iff.1 h
  exact ⟨hfits, canonical_of_bit5 (by rw [hdest, hbit, hlogin]; rfl), hsource, hunknown, .inl hdest⟩

/-- A record to the secondary has `loginBit` 1. -/
theorem isReply_toSecondary (hfits : R.fits P.layout = true)
    (hsource : R.messageSource = S.controllerAddress.setWidth 8) (hunknown : R.unknownBit = 1)
    (hdest : R.messageDest = P.addrSecondary) (hlogin : R.loginBit = 1) : IsReply P S R := by
  obtain ⟨-, ⟨-, hbit⟩, -, -⟩ := P.wf_iff.1 h
  exact ⟨hfits, canonical_of_bit5 (by rw [hdest, hbit, hlogin]; rfl), hsource, hunknown, .inr hdest⟩

end

section
variable {P : Params} (h : P.wf = true) (S : Session) (b : Frame)
include h

theorem columnToUnit_isReply : IsReply P S (columnToUnit P S (decodeFrame P.layout b)) :=
  isReply_toUnit h (columnToUnit_fits S (decodeFrame_fits (Params.layout_wf h) b) (Params.layout_wf h))
    rfl rfl rfl rfl

theorem columnToSecondary_isReply : IsReply P S (columnToSecondary P S (decodeFrame P.layout b)) :=
  isReply_toSecondary h
    (columnToSecondary_fits S (decodeFrame_fits (Params.layout_wf h) b))
    rfl rfl rfl rfl

theorem columnLogin_isReply : IsReply P S (columnLogin P S (decodeFrame P.layout b)) :=
  isReply_toUnit h (columnLogin_fits S (decodeFrame_fits (Params.layout_wf h) b))
    rfl rfl rfl rfl

theorem columnMagic2_isReply : IsReply P S (columnMagic2 P S (decodeFrame P.layout b)) :=
  isReply_toUnit h (columnMagic2_fits S (decodeFrame_fits (Params.layout_wf h) b) (Params.layout_wf h))
    rfl rfl rfl rfl

theorem columnLoginEcho_isReply (hcur : S.currentState.fits P.layout = true) :
    IsReply P S (columnLoginEcho P S (decodeFrame P.layout b)) :=
  isReply_toSecondary h
    (columnLoginEcho_fits S (decodeFrame_fits (Params.layout_wf h) b) (Params.layout_wf h) hcur)
    rfl rfl rfl rfl

end

/-! ### The merge keeps a reply (43_session_fsm.md R171) -/

theorem merged_fits {L : Layout} {S : Session} {R : ControlFrame} (hR : R.fits L = true)
    (hupd : S.updateState.fits L = true) : (S.merged R).fits L = true := by
  obtain ⟨-, -, -, -, -, -, hstaged, hother⟩ := merged_isMerged S R
  refine (ControlFrame.fits_iff _ _).2 fun g => ?_
  by_cases hg : ∃ f : StageField, f.toBody = g
  · obtain ⟨f, rfl⟩ := hg
    rw [hstaged]
    split
    · exact fits_body hupd _
    · exact fits_body hR _
  · rw [hother g fun f hf => hg ⟨f, hf⟩]
    exact fits_body hR g

theorem IsReply.merged {P : Params} {S : Session} {R : ControlFrame} (h : IsReply P S R)
    (hupd : S.updateState.fits P.layout = true) : IsReply P S (S.merged R) := by
  obtain ⟨hsource, hdest, -, hlogin, hunknown, -, -, -⟩ := merged_isMerged S R
  refine ⟨merged_fits h.fits hupd, ?_, hsource.trans h.source, hunknown.trans h.unknown, ?_⟩
  · rw [ControlFrame.canonical, hlogin, hdest]
    exact h.canonical
  · rw [hdest]
    exact h.dest

/-! ### The queued frame reads back as its row (43_session_fsm.md R177) -/

section
variable {P : Params} {S : Session} {R : ControlFrame}

theorem IsReply.decode_encode (h : IsReply P S R) (hP : P.wf = true) :
    decodeFrame P.layout (encodeFrame P.layout R) = R :=
  decodeFrame_encodeFrame_of_canonical (Params.layout_wf hP) h.fits h.canonical

theorem IsReply.hasShape (h : IsReply P S R) (hP : P.wf = true) {src : BitVec 7}
    (hsrc : S.controllerAddress = src) :
    hasShape P src R.messageDest R.messageType R.loginBit R.controllerPresent R.updateMagic
      (encodeFrame P.layout R) = true := by
  rw [hasShape_iff, h.decode_encode hP]
  exact ⟨hsrc ▸ h.source, rfl, rfl, rfl, h.unknown, rfl, rfl, rfl⟩

/-- Three constants of the reply rows are not stageable (41_pending_update.md R120). -/
theorem toBody_ne_fixed (f : StageField) :
    f.toBody ≠ .controllerPresent ∧ f.toBody ≠ .updateMagic ∧ f.toBody ≠ .acError := by
  cases f <;> decide

/-- The merge keeps the fixed fields of a shape. -/
theorem merged_fixed (S : Session) (R : ControlFrame) :
    (S.merged R).messageDest = R.messageDest ∧ (S.merged R).messageType = R.messageType ∧
    (S.merged R).loginBit = R.loginBit ∧ (S.merged R).controllerPresent = R.controllerPresent ∧
    (S.merged R).updateMagic = R.updateMagic ∧ (S.merged R).acError = R.acError := by
  obtain ⟨-, hdest, htype, hlogin, -, -, -, hother⟩ := merged_isMerged S R
  exact ⟨hdest, htype, hlogin, hother .controllerPresent fun f => (toBody_ne_fixed f).1,
    hother .updateMagic fun f => (toBody_ne_fixed f).2.1,
    hother .acError fun f => (toBody_ne_fixed f).2.2⟩

end

theorem invFrame_wireEncodeFrame (L : Layout) (F : ControlFrame) :
    invFrame (wireEncodeFrame L F) = encodeFrame L F := invFrame_invFrame _

/-- A status reply built in its role is read back as its row, and decodes to what was persisted. -/
theorem readBack_of_status {s t : State} {i : Instr} {R : ControlFrame} {src : BitVec 7}
    {row : Frame → Instr} (hP : s.params.wf = true)
    (hupd : s.S.updateState.fits s.params.layout = true) (hsrc : s.S.controllerAddress = src)
    (hi : buildsStatusReply i = true) (hR : replyTable s.params s.S i = some R)
    (hreply : IsReply s.params s.S R) (hexec : exec i s = .next t)
    (hrow : ∀ Q, encodeReply (row Q) = some Q)
    (hwf : ∀ Q, hasShape s.params src R.messageDest R.messageType R.loginBit R.controllerPresent
      R.updateMagic Q = true → (decodeFrame s.params.layout Q).acError = R.acError →
      (row Q).wf s.mode = true) :
    decodeReply s.params (invFrame t.S.txBuf) = some (row (invFrame t.S.txBuf)) ∧
      decodeFrame s.params.layout (invFrame t.S.txBuf) = t.S.currentState := by
  obtain rfl : s.withS (s.S.answer s.params.layout R) = t := by
    simpa using (exec_of_buildsStatusReply hi hR).symm.trans hexec
  obtain ⟨hdest, htype, hlogin, hcp, hmagic, herror⟩ := merged_fixed s.S R
  have hmerged := hreply.merged hupd
  have hshape := hmerged.hasShape hP hsrc
  rw [hdest, htype, hlogin, hcp, hmagic] at hshape
  have hdecode := hmerged.decode_encode hP
  simp only [State.withS_S, Session.answer_txBuf, Session.answer_currentState,
    invFrame_wireEncodeFrame]
  exact ⟨decodeReply_of_wf (m := s.mode) hP (hwf _ hshape (by rw [hdecode, herror])) (hrow _), hdecode⟩

/-- The echo of a LOGIN frame built in its role is read back as its row. -/
theorem readBack_of_echo {s t : State} {i : Instr} {b : Frame} {src : BitVec 7}
    {row : Frame → Instr} (hP : s.params.wf = true)
    (hcur : s.S.currentState.fits s.params.layout = true) (hsrc : s.S.controllerAddress = src)
    (hlogin : (decodeFrame s.params.layout b).messageType = s.params.mtLogin)
    (hi : exec i s = .next (s.buildEcho b)) (hexec : exec i s = .next t)
    (hrow : ∀ Q, encodeReply (row Q) = some Q)
    (hwf : ∀ Q, hasShapeNoWrite s.params src s.params.addrSecondary s.params.mtLogin 1 1 0 Q = true →
      (row Q).wf s.mode = true) :
    decodeReply s.params (invFrame t.S.txBuf) = some (row (invFrame t.S.txBuf)) := by
  obtain rfl : s.buildEcho b = t := by simpa using hi.symm.trans hexec
  have hreply := columnLoginEcho_isReply hP s.S b hcur
  have hshape := hreply.hasShape hP hsrc
  have hwrite : (columnLoginEcho s.params s.S (decodeFrame s.params.layout b)).writeBit = 0 := rfl
  have hshape' : hasShapeNoWrite s.params src s.params.addrSecondary s.params.mtLogin 1 1 0
      (encodeFrame s.params.layout
        (columnLoginEcho s.params s.S (decodeFrame s.params.layout b))) = true := by
    refine hasShapeNoWrite_iff.2 ⟨?_, by rw [hreply.decode_encode hP, hwrite]⟩
    rw [← hlogin]
    exact hshape
  have hQ : invFrame (s.buildEcho b).S.txBuf = encodeFrame s.params.layout
      (columnLoginEcho s.params s.S (decodeFrame s.params.layout b)) := invFrame_invFrame _
  rw [hQ]
  exact decodeReply_of_wf (m := s.mode) hP (hwf _ hshape') (hrow _)

/-- Settles O39: row by row. -/
theorem queuedReplyHasItsRowsFixedBits : Obligations.QueuedReplyHasItsRowsFixedBits := by
  intro s t b hP hcur hupd Q
  refine ⟨fun hsrc => ⟨fun hexec => ?_, fun hexec => ?_, fun hexec => ?_, fun hlogin hexec => ?_⟩,
    fun hsrc => ⟨fun hexec => ?_, fun hexec => ?_, fun hlogin hexec => ?_⟩⟩
  · exact readBack_of_status (row := .txStatusToUnitPrimary) hP hupd hsrc rfl rfl
      (columnToUnit_isReply hP s.S b) hexec (fun _ => rfl) fun _ hshape _ => hshape
  · exact readBack_of_status (row := .txStatusToSecondaryPrimary) hP hupd hsrc rfl rfl
      (columnToSecondary_isReply hP s.S b) hexec (fun _ => rfl) fun _ hshape _ => hshape
  · exact readBack_of_status (row := .txLoginToUnitPrimary) hP hupd hsrc rfl rfl
      (columnLogin_isReply hP s.S b) hexec (fun _ => rfl) fun _ hshape herror =>
        hasShapeNoError_iff.2 ⟨hshape, herror⟩
  · exact readBack_of_echo (row := .txLoginEchoToSecondaryPrimary) hP hcur hsrc hlogin rfl hexec
      (fun _ => rfl) fun _ hshape => hshape
  · exact readBack_of_status (row := .txStatusToUnitSecondary) hP hupd hsrc rfl rfl
      (columnToUnit_isReply hP s.S b) hexec (fun _ => rfl) fun _ hshape _ => hshape
  · exact readBack_of_status (row := .txStatusMagic2ToUnitSecondary) hP hupd hsrc rfl rfl
      (columnMagic2_isReply hP s.S b) hexec (fun _ => rfl) fun _ hshape _ => hshape
  · exact readBack_of_echo (row := .txLoginEchoToSecondarySecondary) hP hcur hsrc hlogin rfl hexec
      (fun _ => rfl) fun _ hshape => hshape

end Sys2Proof.Machine
end

section
/-! PROOFS. 10_state.md R43: each operation on the state keeps the invariant, and so does the step. -/

namespace Sys2Proof.Machine

/-! ### The operations on the state, one by one -/

/-- The frame waiting for a reply record is a queued reply (R43 (d)). -/
theorem queuedReply_of_isReply {s : State} {R : ControlFrame} (hP : s.params.wf = true)
    (htx : s.S.txBuf = wireEncodeFrame s.params.layout R) (h : IsReply s.params s.S R) :
    QueuedReply s := by
  have hdecode : wireDecodeFrame s.params.layout s.S.txBuf = R := by
    rw [htx, wireDecodeFrame_wireEncodeFrame (Params.layout_wf hP) h.fits h.canonical]
  simp only [QueuedReply, hdecode]
  exact ⟨htx, h.fits, h.source, h.unknown, h.dest⟩

section
variable {s : State} (h : Inv s)
include h

theorem inv_at {now : Nat} (hclock : s.clock ≤ now) : Inv (s.at now) := by
  obtain ⟨hwf, haddr, hsec, hoff, hq, hcur, hupd, hlast⟩ := h
  exact ⟨hwf, haddr, hsec, hoff, hq, hcur, hupd, hlast.trans hclock⟩

theorem inv_emit (o : Output) : Inv (s.emit o) := h

theorem inv_draw : Inv s.draw := h

theorem inv_of_answers {t : State} (ht : Answers s t) : Inv t := by
  obtain ⟨o, -, rfl | rfl⟩ := ht
  · exact inv_emit h o
  · exact inv_emit (inv_draw h) o

theorem inv_onFrameReceived (hconn : s.S.connected = true) :
    Inv (s.withS (s.S.onFrameReceived s.clock)) := by
  obtain ⟨hwf, haddr, hsec, -, hq, hcur, hupd, -⟩ := h
  exact ⟨hwf, haddr, hsec, fun hoff => absurd (hconn.symm.trans hoff) nofun, hq, hcur, hupd, le_rfl⟩

theorem inv_login (hconn : s.S.connected = true) : Inv (s.withS s.S.login) := by
  obtain ⟨hwf, haddr, hsec, -, hq, hcur, hupd, hlast⟩ := h
  exact ⟨hwf, haddr, hsec, fun hoff => absurd (hconn.symm.trans hoff) nofun, hq, hcur, hupd, hlast⟩

theorem inv_stage (f : StageField) (v : Byte) : Inv (s.staged f v) := by
  obtain ⟨hwf, haddr, hsec, hoff, hq, hcur, hupd, hlast⟩ := h
  exact ⟨hwf, haddr, hsec, hoff, hq, hcur, setBody_fits hupd (truncTo_lt _ v), hlast⟩

theorem inv_clearDirty : Inv (s.withS s.S.clearDirty) := h

theorem inv_persist {R : ControlFrame} (hR : R.fits s.params.layout = true) :
    Inv (s.withS (s.S.persist R)) := by
  obtain ⟨hwf, haddr, hsec, hoff, hq, -, hupd, hlast⟩ := h
  exact ⟨hwf, haddr, hsec, hoff, hq, hR, hupd, hlast⟩

theorem inv_queue (hconn : s.S.connected = true) {R : ControlFrame}
    (hR : IsReply s.params s.S R) : Inv (s.withS (s.S.queue s.params.layout R)) := by
  obtain ⟨hwf, haddr, hsec, -, -, hcur, hupd, hlast⟩ := h
  have hR' : IsReply s.params (s.S.queue s.params.layout R) R :=
    ⟨hR.fits, hR.canonical, hR.source, hR.unknown, hR.dest⟩
  exact ⟨hwf, haddr, hsec, fun hoff => absurd (hconn.symm.trans hoff) nofun,
    fun _ => queuedReply_of_isReply (s := s.withS _) hwf rfl hR', hcur, hupd, hlast⟩

/-- The end of a STATUS class: cleared, persisted, queued. -/
theorem inv_answer (hconn : s.S.connected = true) {R : ControlFrame}
    (hR : IsReply s.params s.S R) : Inv (s.withS (s.S.answer s.params.layout R)) := by
  obtain ⟨-, -, -, -, -, -, hupd, -⟩ := id h
  have hM := hR.merged hupd
  have hM' : IsReply s.params (s.S.clearDirty.persist (s.S.merged R)) (s.S.merged R) :=
    ⟨hM.fits, hM.canonical, hM.source, hM.unknown, hM.dest⟩
  exact inv_queue (inv_persist (inv_clearDirty h) hM.fits) hconn hM'

/-- Only a PRIMARY block observes (R43 (b)). -/
theorem inv_observe (hconn : s.S.connected = true) (hrole : s.S.controllerIsPrimary = true)
    {F : ControlFrame} (hF : F.fits s.params.layout = true) : Inv (s.withS (s.S.observe F)) := by
  obtain ⟨hwf, haddr, -, -, hq, hcur, hupd, hlast⟩ := h
  have htemp : (s.S.currentState.setBody .controllerTemp F.controllerTemp).fits s.params.layout = true :=
    setBody_fits hcur (fits_body hF .controllerTemp)
  exact ⟨hwf, haddr, fun hsec => absurd (hrole.symm.trans hsec) nofun,
    fun hoff => absurd (hconn.symm.trans hoff) nofun, hq, htemp, hupd, hlast⟩

theorem inv_sent : Inv (s.withS s.S.sent) := by
  obtain ⟨hwf, haddr, hsec, hoff, -, hcur, hupd, hlast⟩ := h
  refine ⟨hwf, haddr, hsec, fun hc => ?_, nofun, hcur, hupd, hlast⟩
  obtain ⟨-, hrest⟩ := hoff hc
  exact ⟨rfl, hrest⟩

theorem inv_resetSession : Inv (s.withS s.S.resetSession) := by
  obtain ⟨hwf, haddr, hsec, hoff, hq, hcur, hupd, hlast⟩ := h
  exact ⟨hwf, haddr, fun _ => rfl, fun hc => ⟨(hoff hc).1, rfl, rfl, rfl⟩, hq, hcur, hupd,
    Nat.zero_le _⟩

theorem inv_connect (v : Bool) : Inv (s.withS (s.S.connect s.params v)) := by
  obtain ⟨hwf, -, -, -, -, hcur, hupd, -⟩ := h
  exact ⟨hwf, by cases v <;> rfl, fun _ => rfl, nofun, nofun, hcur, hupd, Nat.zero_le _⟩

theorem inv_txPoll (now : Nat) : Inv (s.txPoll now) := by
  rw [txPoll_eq]
  split
  · exact inv_emit (inv_sent h) _
  · exact h

theorem inv_timeoutPoll (now th : Nat) : Inv (s.timeoutPoll now th) := by
  rw [timeoutPoll_eq]
  split
  · exact inv_resetSession h
  · exact h

end

/-! ### The reaction to a group -/

/-- A group of any class but `unconnected` comes to a connected block. -/
theorem connected_of_classify {m : Mode} {raw : List Byte} {c : FrameClass}
    (h : classify m raw = c) (hc : c ≠ .unconnected) : m.connected = true := by
  by_contra hconn
  exact hc (h.symm.trans (classify_of_unconnected raw (Bool.not_eq_true _ ▸ hconn)))

theorem recordClass_observe {m : Mode} {F : ControlFrame} (h : recordClass m F = .observe) :
    m.own ≠ m.params.addrSecondary := by
  by_cases hown : F.messageDest = m.own
  · revert h
    unfold recordClass
    rw [if_pos hown]
    split_ifs <;> exact nofun
  · rw [recordClass_of_unaddressed hown] at h
    split at h
    next hsec => exact fun he => hown (hsec.trans he.symm)
    next => cases h

theorem own_ne_of_observe {m : Mode} {raw : List Byte} (h : classify m raw = .observe) :
    m.own ≠ m.params.addrSecondary := by
  have hconn := connected_of_classify h nofun
  by_cases hlen : raw.length < 8
  · rw [classify_of_short hconn hlen] at h
    cases h
  · exact recordClass_observe ((classify_of_full hconn (Nat.not_lt.1 hlen)).symm.trans h)

theorem inv_react {s : State} (h : Inv s) {c : FrameClass} {raw : List Byte}
    (hclass : classify s.mode raw = c) : Inv (s.react c raw s.clock) := by
  have hconn : c ≠ .unconnected → s.S.connected = true := connected_of_classify hclass
  have hP : s.params.wf = true := h.1
  have hcur : s.S.currentState.fits s.params.layout = true := by
    obtain ⟨-, -, -, -, -, hcur, -, -⟩ := h
    exact hcur
  have htime : c ≠ .unconnected → Inv (s.withS (s.S.onFrameReceived s.clock)) := fun hc =>
    inv_onFrameReceived h (hconn hc)
  cases c with
  | unconnected | short | other => exact h
  | statusCp1 =>
    have hc := hconn nofun
    refine inv_answer (s := s.withS (s.S.onFrameReceived s.clock).login)
      (inv_login (htime nofun) hc) hc ?_
    split
    · exact columnToSecondary_isReply hP _ _
    · exact columnToUnit_isReply hP _ _
  | statusCp0Pri =>
    exact inv_answer (s := s.withS (s.S.onFrameReceived s.clock)) (htime nofun) (hconn nofun)
      (columnLogin_isReply hP _ _)
  | statusCp0Sec =>
    exact inv_answer (s := s.withS (s.S.onFrameReceived s.clock)) (htime nofun) (hconn nofun)
      (columnMagic2_isReply hP _ _)
  | login =>
    exact inv_queue (s := s.withS (s.S.onFrameReceived s.clock)) (htime nofun) (hconn nofun)
      (columnLoginEcho_isReply hP _ _ hcur)
  | error => exact inv_emit (htime nofun) _
  | reserved => exact htime nofun
  | observe =>
    have hrole : s.S.controllerIsPrimary = true := by
      obtain ⟨-, haddr, -⟩ := h
      by_contra hrole
      exact own_ne_of_observe hclass (haddr.trans (if_neg hrole))
    exact inv_observe h (hconn nofun) hrole (decodeFrame_fits (Params.layout_wf hP) _)

/-! ### Every operation that an event presents -/

theorem not_presentable_of_reply {i : Instr}
    (h : buildsStatusReply i = true ∨ buildsLoginEcho i = true) : presentable i = false := by
  cases i with
  | txStatusToUnitPrimary | txStatusToUnitSecondary | txStatusToSecondaryPrimary
  | txLoginToUnitPrimary | txStatusMagic2ToUnitSecondary | txLoginEchoToSecondaryPrimary
  | txLoginEchoToSecondarySecondary => rfl
  | _ => obtain h | h := h <;> exact nomatch h

theorem exec_keeps_inv {s t : State} {i : Instr} (h : Inv s) (hi : presentable i = true)
    (hexec : exec i s = .next t) : Inv t := by
  obtain ⟨raw, now, -, -, hclock, rfl⟩ | ⟨now, k, -, hclock, rfl, heffect⟩ | heffect :=
    exec_next_cases hexec
  · exact inv_react (inv_at h hclock) rfl
  · have hat := inv_at h hclock
    cases heffect with
    | polls _ hk => rw [hk]; exact inv_txPoll hat now
    | pollsTimeout th _ hk => rw [hk]; exact inv_timeoutPoll hat now th
    | ticks th _ hk => rw [hk]; exact inv_timeoutPoll (inv_txPoll hat now) now th
    | recordsTime hi' _ =>
      subst hi'
      exact nomatch hi
    | answers hk => exact inv_of_answers hat (hk _)
  · cases heffect with
    | stages f v _ => exact inv_stage h f v
    | repliesStatus R hi' _ => exact absurd (not_presentable_of_reply (.inl hi')) (by simp [hi])
    | repliesLogin R hi' _ => exact absurd (not_presentable_of_reply (.inr hi')) (by simp [hi])
    | connects v _ => exact inv_connect h v
    | resets _ => exact inv_resetSession h
    | applies R _ => exact inv_emit (inv_clearDirty h) _
    | answers ht => exact inv_of_answers h ht
    | nothing => exact h

/-- Settles O56: the operation decoded from the oldest event has an event, so it keeps the invariant. -/
theorem stepKeepsTheInvariant : Obligations.StepKeepsTheInvariant := by
  intro s t h hstep
  cases hinbox : s.inbox with
  | nil =>
    obtain rfl : s = t := by simpa using (step_of_nil hinbox).symm.trans hstep
    exact h
  | cons p rest =>
    cases hdecode : decode s.mode p with
    | ok i =>
      obtain ⟨-, hi⟩ := decodedOperationIsWellFormed s.mode p i hdecode
      exact exec_keeps_inv (s := { s with inbox := rest }) h hi
        ((step_of_decoded hinbox h.1 hdecode).symm.trans hstep)
    | rejected e => exact absurd ((step_of_rejected hinbox h.1 hdecode).symm.trans hstep) nofun

/-! ### Power-on (10_state.md R38, column "pw") -/

theorem zero_fits (L : Layout) : ControlFrame.zero.fits L = true := by
  refine (ControlFrame.fits_iff _ _).2 fun f => ?_
  cases f <;> exact zero_lt_width L _

theorem inv_powerOn {P : Params} (h : P.wf = true) : Inv (State.powerOn P) :=
  ⟨h, rfl, nofun, fun _ => ⟨rfl, rfl, rfl, rfl⟩, nofun, zero_fits _, zero_fits _, le_rfl⟩

/-- Settles O57: nothing is pending or recorded at power-on, and a zero record fits. -/
theorem powerOnMeetsTheInvariant : Obligations.PowerOnMeetsTheInvariant :=
  ⟨fun _ h => inv_powerOn h, inv_powerOn (by decide)⟩

/-- Settles O58: each value is `Session.powerOn`'s. -/
theorem powerOnValues : Obligations.PowerOnValues := by
  intro P S
  refine ⟨rfl, rfl, rfl, rfl, rfl, rfl, fun f => ?_, rfl, rfl, rfl, rfl, rfl, rfl, rfl, rfl,
    Frame.get_zero, rfl⟩
  cases f <;> exact ⟨rfl, rfl⟩

end Sys2Proof.Machine
end

section
/-! PROOFS. 41_pending_update.md: a staged value is delivered in exactly one reply. -/

namespace Sys2Proof.Machine

/-! ### The flags over a list of operations -/

theorem not_isDirty_zero (f : StageField) : ¬ isDirty 0 f = true := by
  simp [isDirty]

theorem react_isDirty {s : State} {c : FrameClass} {raw : List Byte} {now : Nat} {f : StageField}
    (h : isDirty (s.react c raw now).S.updateFields f = true) : isDirty s.S.updateFields f = true := by
  cases c with
  | statusCp1 | statusCp0Pri | statusCp0Sec => exact absurd h (not_isDirty_zero f)
  | _ => exact h

theorem TimedEffect.updateFields {i : Instr} {now : Nat} {k : State → State}
    (h : TimedEffect i now k) (s : State) : (k s).S.updateFields = s.S.updateFields := by
  cases h with
  | polls _ hk =>
    obtain ⟨-, -, -, -, hS⟩ := txPoll_frame s now
    rw [hk, hS]
  | pollsTimeout th _ hk =>
    obtain ⟨-, -, -, -, hS⟩ := timeoutPoll_frame s now th
    rw [hk, hS]
  | ticks th _ hk =>
    obtain ⟨-, -, -, -, hS⟩ := txPoll_frame s now
    obtain ⟨-, -, -, -, hT⟩ := timeoutPoll_frame (s.txPoll now) now th
    rw [hk, hT, hS]
  | recordsTime _ hk => rw [hk, State.withS_S, Session.onFrameReceived_updateFields]
  | answers hk => rw [(hk s).S_eq]

/-- A flag that is set after an operation was set before it, or the operation staged the field. -/
theorem exec_isDirty {s t : State} {i : Instr} {f : StageField} (hexec : exec i s = .next t)
    (h : isDirty t.S.updateFields f = true) :
    isDirty s.S.updateFields f = true ∨ ∃ v, stagedBy i = some (f, v) := by
  obtain ⟨raw, now, -, -, -, rfl⟩ | ⟨now, k, -, -, rfl, heffect⟩ | heffect := exec_next_cases hexec
  · exact .inl (react_isDirty (s := s.at now) h)
  · rw [heffect.updateFields] at h
    exact .inl h
  · cases heffect with
    | stages g v hi =>
      have hset : isDirty (setDirty s.S.updateFields g) f = true := h
      rw [isDirty_setDirty, Bool.or_eq_true, decide_eq_true_iff] at hset
      obtain hset | rfl := hset
      · exact .inl hset
      · exact .inr ⟨v, hi⟩
    | repliesStatus | applies =>
      exact absurd h (not_isDirty_zero f)
    | answers ht =>
      rw [ht.S_eq] at h
      exact .inl h
    | _ => exact .inl h

/-- Along a list of operations: a flag set at the end was set at the start, or an operation staged the field. -/
theorem runAll_isDirty {l : List Instr} {s u : State} {f : StageField} (hrun : runAll l s = some u)
    (h : isDirty u.S.updateFields f = true) :
    isDirty s.S.updateFields f = true ∨ ∃ i ∈ l, ∃ v, stagedBy i = some (f, v) := by
  induction l generalizing s with
  | nil =>
    cases hrun
    exact .inl h
  | cons i l ih =>
    obtain ⟨t, hexec, hrest⟩ := runAll_cons.1 hrun
    obtain ht | ⟨j, hj, hstaged⟩ := ih hrest
    · obtain hs | hstaged := exec_isDirty hexec ht
      · exact .inl hs
      · exact .inr ⟨i, List.mem_cons_self, hstaged⟩
    · exact .inr ⟨j, List.mem_cons_of_mem i hj, hstaged⟩

/-! ### Once connected, a block stays connected (10_state.md R31) -/

theorem exec_connected {s t : State} {i : Instr} (hexec : exec i s = .next t)
    (h : s.S.connected = true) : t.S.connected = true := by
  by_cases hi : ∃ v, i = .connect v
  · obtain ⟨v, rfl⟩ := hi
    obtain rfl := exec_connect_next hexec
    rfl
  · obtain ⟨-, -, -, hsame⟩ := exec_sameIdentity hexec fun v hv => hi ⟨v, hv⟩
    rw [hsame, h]

theorem runAll_connected {l : List Instr} {s u : State} (hrun : runAll l s = some u)
    (h : s.S.connected = true) : u.S.connected = true := by
  induction l generalizing s with
  | nil =>
    cases hrun
    exact h
  | cons i l ih =>
    obtain ⟨t, hexec, hrest⟩ := runAll_cons.1 hrun
    exact ih hrest (exec_connected hexec h)

/-! ### The reply to an addressed STATUS frame -/

/-- `t` holds the reply `M` as the answer of a STATUS class to `s`: persisted, queued, the flags cleared. -/
def Answered (s t : State) (M : ControlFrame) : Prop :=
  t.S.currentState = M ∧ t.S.txBuf = wireEncodeFrame s.params.layout M ∧
    t.S.pendingFrame = true ∧ t.S.updateFields = 0 ∧ t.outbox = s.outbox

/-- Any of the three STATUS classes answers with its reply, merged. -/
theorem exec_rxFrame_of_status {s : State} {b : Frame} {now : Nat} (hclock : s.clock ≤ now)
    (hconn : s.S.connected = true)
    (hown : (decodeFrame s.params.layout b).messageDest = s.S.controllerAddress)
    (htype : (decodeFrame s.params.layout b).messageType = s.params.mtStatus) :
    ∃ t, exec (.rxFrame (invFrame b).toList now) s = .next t ∧
      Answered s t (s.S.merged (statusReply s.params s.S (decodeFrame s.params.layout b))) := by
  have hclass := recordClass_of_status (m := s.mode) hown htype
  refine ⟨_, exec_of_record rfl hclock hconn hclass, ?_⟩
  unfold statusReply
  split
  · rw [react_statusCp1]
    exact ⟨rfl, rfl, rfl, rfl, rfl⟩
  · rw [State.mode_isPrimary]
    split
    · rw [react_statusCp0Pri]
      exact ⟨rfl, rfl, rfl, rfl, rfl⟩
    · rw [react_statusCp0Sec]
      exact ⟨rfl, rfl, rfl, rfl, rfl⟩

theorem statusReply_writeBit (P : Params) (S : Session) (F : ControlFrame) :
    (statusReply P S F).writeBit = 0 := by
  unfold statusReply
  split_ifs <;> rfl

theorem merged_body_of_clean {S : Session} {f : StageField} (hf : isDirty S.updateFields f = false)
    (R : ControlFrame) : (S.merged R).body f.toBody = R.body f.toBody := by
  obtain ⟨-, -, -, -, -, -, hstaged, -⟩ := merged_isMerged S R
  rw [hstaged, hf]
  rfl

theorem merged_of_clean {S : Session} (h : S.updateFields = 0) (R : ControlFrame) :
    S.merged R = R := by
  simp [Session.merged, anyDirty, h]

/-- Settles O40: the first reply clears the flags, so a later one merges only what was staged in between. -/
theorem stagedValuesEnterExactlyOneReply : Obligations.StagedValuesEnterExactlyOneReply := by
  intro s b now F hclock hconn hown htype
  obtain ⟨t, hexec, hcur, htx, hpending, hflags, hout⟩ :=
    exec_rxFrame_of_status hclock hconn hown htype
  refine ⟨t, hexec, hcur ▸ merged_isMerged s.S _, hcur ▸ htx, hpending, hflags, hout, ?_⟩
  intro between u b' now' F' hrun hclock' hown' htype'
  have hconn' : u.S.connected = true := runAll_connected hrun (exec_connected hexec hconn)
  have hclean : ∀ f, (∀ i ∈ between, ∀ x, stagedBy i ≠ some (f, x)) →
      isDirty u.S.updateFields f = false := by
    intro f hf
    rw [← Bool.not_eq_true]
    intro hdirty
    obtain ht | ⟨i, hi, x, hx⟩ := runAll_isDirty hrun hdirty
    · rw [hflags] at ht
      exact not_isDirty_zero f ht
    · exact hf i hi x hx
  obtain ⟨v, hexec', hcur', htx', hpending', hflags', hout'⟩ :=
    exec_rxFrame_of_status hclock' hconn' hown' htype'
  refine ⟨v, hexec', fun f hf => ?_, fun hnone => ?_, hcur' ▸ htx', hpending', hflags', hout'⟩
  · rw [hcur', merged_body_of_clean (hclean f hf)]
  · have hzero : u.S.updateFields = 0 := (flags_eq_zero_iff _).2 fun f =>
      hclean f fun i hi x hx => absurd ((hnone i hi).symm.trans hx) nofun
    rw [hcur', merged_of_clean hzero]
    exact ⟨rfl, statusReply_writeBit _ _ _⟩

end Sys2Proof.Machine
end
